-- ==== Sys2Proof/Word.lean ====
section
/-!
DEFINITION. The bit-vector types of the CTE (spec/00_scope.md R8, R9, R15): every quantity of the engine is an
unsigned 32-bit value or a byte; bit 0 is the least significant bit.
-/

namespace Sys2Proof

/-- A 32-bit unsigned value: a register, a table entry, a command word (R8, R9, R51). -/
abbrev Word := BitVec 32

/-- An 8-bit byte: a FEED operand, a table index, one byte of a word (R8, R9). -/
abbrev Byte := BitVec 8

/-- A byte offset in the 4096-byte register window (R52): offsets 0x000 to 0xFFF. -/
abbrev Offset := BitVec 12

end Sys2Proof
end

