-- ==== Sys2Proof/Syntax.lean ====
section
/-!
DEFINITION. The commands of the CTE, one constructor per row of spec/opcode_table.json (spec/30_encoding.md R83).
-/

namespace Sys2Proof

/-- A command of the CTE (R83). Operands are IMM8 (R84); every other operand is a fixed register (R81, R84). -/
inductive Instr where
  /-- NOP (R136). -/
  | nop
  /-- BUILD: build TABLE from POLY (R100). -/
  | build
  /-- INIT: start a checksum (R110). -/
  | init
  /-- FEED b: absorb the byte b (R112). -/
  | feed (b : Byte)
  /-- FEEDW n: absorb the n low bytes of DATA, legal for n in 1..4 (R114). -/
  | feedw (n : Byte)
  /-- FINAL: output-XOR, return, byte reversal (R116). -/
  | final
  /-- MATCH: compare with EXPECTED (R130); `match` is a word of Lean. -/
  | matchExpected
  /-- CLRERR: clear STATUS.ERR (R134). -/
  | clrerr
deriving DecidableEq, Repr

end Sys2Proof
end

