-- ==== Sys2Proof/WellFormed.lean ====
section
/-!
DEFINITION. When a command has an encoding (spec/30_encoding.md R83, R84): FEEDW's count is 1 to 4, every FEED byte is
legal, and the other commands have no operand.
-/

namespace Sys2Proof

/-- The operand of the command is one the encoding admits (R83, R84). -/
def Instr.wellFormed : Instr → Bool
  | .nop => true
  | .build => true
  | .init => true
  | .feed _ => true
  | .feedw n => decide (1 ≤ n.toNat) && decide (n.toNat ≤ 4)
  | .final => true
  | .matchExpected => true
  | .clrerr => true

end Sys2Proof
end

