-- ==== Sys2Proof/Decode.lean ====
section
/-!
DEFINITION. The command word, format CMD32 (spec/30_encoding.md R80): its fields, the decoder (R82, R83, R85), total on
every word and rejecting by name, and the encoder.
-/

namespace Sys2Proof

/-- OP, bits 31:24 (R80). -/
def opField (w : Word) : Byte := w.extractLsb' 24 8

/-- RSV, bits 23:8, 0 in every command (R80). -/
def rsvField (w : Word) : BitVec 16 := w.extractLsb' 8 16

/-- IMM8, bits 7:0 (R80). -/
def immField (w : Word) : Byte := w.extractLsb' 0 8

/-- Why a word is no command (R85). Executing such a word records ILLEGAL, whichever the reason. -/
inductive DecodeError where
  /-- RSV is not 0. -/
  | reservedBits
  /-- OP is 0x08 to 0xFF. -/
  | unknownOpcode
  /-- IMM8 is not 0 in a command without an operand, or FEEDW's count is 0 or above 4. -/
  | badOperand
deriving DecidableEq, Repr

/-- A command without an operand: IMM8 must be 0 (R84). -/
def decodePlain (i : Instr) (imm : Byte) : Except DecodeError Instr :=
  if imm = 0x00#8 then .ok i else .error .badOperand

/-- FEEDW: `1 <= imm and imm <= 4` (R82). -/
def decodeFeedw (imm : Byte) : Except DecodeError Instr :=
  if 1 ≤ imm.toNat ∧ imm.toNat ≤ 4 then .ok (.feedw imm) else .error .badOperand

/-- The opcode map (R83), for a word whose RSV is 0. -/
def decodeOp (op imm : Byte) : Except DecodeError Instr :=
  if op = 0x00#8 then decodePlain .nop imm
  else if op = 0x01#8 then decodePlain .build imm
  else if op = 0x02#8 then decodePlain .init imm
  else if op = 0x03#8 then .ok (.feed imm)
  else if op = 0x04#8 then decodeFeedw imm
  else if op = 0x05#8 then decodePlain .final imm
  else if op = 0x06#8 then decodePlain .matchExpected imm
  else if op = 0x07#8 then decodePlain .clrerr imm
  else .error .unknownOpcode

/-- The decoder of a command word (R82). The bus moves the word whole (R51, R57), so there is no byte order. -/
def decode (w : Word) : Except DecodeError Instr :=
  if rsvField w = 0#16 then decodeOp (opField w) (immField w) else .error .reservedBits

/-- The word with the fields OP and IMM8 and RSV = 0, the pattern `OOOOOOOO 0000000000000000 IIIIIIII` (R80). -/
def commandWord (op imm : Byte) : Word := (op.setWidth 32 <<< 24) ||| imm.setWidth 32

/-- The opcode of a command (R83). -/
def Instr.opcode : Instr → Byte
  | .nop => 0x00#8
  | .build => 0x01#8
  | .init => 0x02#8
  | .feed _ => 0x03#8
  | .feedw _ => 0x04#8
  | .final => 0x05#8
  | .matchExpected => 0x06#8
  | .clrerr => 0x07#8

/-- The IMM8 of a command: its operand, 0 where it has none (R83, R84). -/
def Instr.operand : Instr → Byte
  | .nop => 0x00#8
  | .build => 0x00#8
  | .init => 0x00#8
  | .feed b => b
  | .feedw n => n
  | .final => 0x00#8
  | .matchExpected => 0x00#8
  | .clrerr => 0x00#8

/-- The word of a command (R80, R83). -/
def encode (i : Instr) : Word := commandWord i.opcode i.operand

/-- The command word given by `nbits` bits of `w`, bit 0 the least significant, the bits above `nbits` 0. -/
def tableWord (nbits w : Nat) : Word := BitVec.ofNat 32 (w % 2 ^ nbits)

/-- What the decoder reads from an opcode-table row's word. Every command is 32 bits (R81): a longer word is none. -/
def decodeTableWord (nbits w : Nat) : Option Instr :=
  if nbits ≤ 32 then (decode (tableWord nbits w)).toOption else none

end Sys2Proof
end

