-- ==== Sys2Proof/Config.lean ====
section
/-!
DEFINITION. What one implementation or platform of the CTE fixes: the parameters of spec/00_scope.md R8 with their
values, and the open parameters of spec/92_eei_decisions.md as constants without a body.
-/

namespace Sys2Proof.Config

/-- The default polynomial, the reset value of POLY (R8, R23, R180). -/
def defaultPoly : Word := 0xEDB88320#32

/-- The reset value of IV (R24, R180). -/
def defaultIv : Word := 0xFFFFFFFF#32

/-- Bit steps per table entry, "repeat 8 times" (R8, R100). -/
def bitsPerEntry : Nat := 8

/-- What the model holds in every TABLE entry after reset. The spec leaves the contents unspecified and unobservable
(R31, R180, 93_implementation_defined.md item 1). DESIGN CHOICE, unsafe: notes/assumptions/1.md. -/
def tableEntryAtReset : Word := 0#32

/-- Open parameter `CTE_BASE` (R52), as the number of the 4096-byte page at which the platform places the window.
notes/assumptions/5.md. -/
opaque cteBasePage : Nat

/-- `CTE_BASE`, "a multiple of 4096" (R52). -/
def cteBase : Nat := 4096 * cteBasePage

/-- Open parameter `RESET_BUS_ABORT` (R181): whether the interconnect ends a CMD write blocked by a reset with a bus
error (true) or lets it complete (false). notes/assumptions/4.md. -/
opaque resetBusAbort : Bool

/-- Open parameter `LAT_BUILD` (R197), less one: "a finite positive number of clk cycles". -/
opaque latBuildLessOne : Nat

/-- Open parameter `LAT_FEED(n)` (R197), less one. -/
opaque latFeedLessOne : Nat → Nat

/-- Open parameter `LAT_OTHER` (R197), less one. -/
opaque latOtherLessOne : Nat

end Sys2Proof.Config
end

