-- ==== Sys2Proof/Machine/State.lean ====
section
/-!
DEFINITION. The state of the CTE (spec/10_state.md R20 to R31), the events the host side of the bus can bring to it
(spec/20_memory.md), why a step can stop, and the state after reset (spec/70_reset_and_hazards.md R180).
-/

namespace Sys2Proof.Machine

/-- What the bus, or the reset input, brings to the CTE next. Offsets are byte offsets in the window (R52). -/
inductive BusEvent where
  /-- `BusRead(a)`, one 32-bit read (R55). -/
  | read (a : Offset)
  /-- `BusWrite(a, v)`, one 32-bit write (R56). -/
  | write (a : Offset) (v : Word)
  /-- A byte (`half` false) or halfword (`half` true) access, open parameter NARROW_ACCESS (R59). -/
  | narrow (isWrite half : Bool) (a : Offset)
  /-- A pulse of `rst_n`, held as R182 asks, with no command in progress (R180). -/
  | reset
  /-- A pulse of `rst_n` that abandons the command `w` while its CMD write is blocked (R155, R181). -/
  | resetDuringCommand (w : Word)
deriving DecidableEq, Repr

/-- How the bus ended an event for the host (ports `ready` and `rdata`, R67). -/
inductive BusResponse where
  /-- A read completed with this data. -/
  | readData (v : Word)
  /-- A write completed. -/
  | writeDone
  /-- A CMD write blocked by a reset ended with a bus error (RESET_BUS_ABORT, R181). -/
  | writeAborted
deriving DecidableEq, Repr

/-- The CTE. Every quantity is plain data. STATUS and CTRL are held by their fields: their other bits are reserved and
read 0 (R22, R25), so no other bit is state. CMD holds no value (R21). -/
structure State where
  /-- POLY (R23). -/
  poly : Word
  /-- IV (R24). -/
  iv : Word
  /-- CTRL.XOROUT, bit 0 (R25). -/
  xorout : Bool
  /-- DATA (R26). -/
  data : Word
  /-- CRC, the running value (R27). -/
  crc : Word
  /-- RESULT, the forward checksum (R28). -/
  result : Word
  /-- RESULT_REV, the byte-reversed checksum (R29). -/
  resultRev : Word
  /-- EXPECTED (R30). -/
  expected : Word
  /-- STATUS.TV, bit 0: TABLE holds the table built from the current POLY (R22). -/
  tv : Bool
  /-- STATUS.M, bit 1 (R22). -/
  m : Bool
  /-- STATUS.MF, bit 2 (R22). -/
  mf : Bool
  /-- STATUS.MR, bit 3 (R22). -/
  mr : Bool
  /-- STATUS.ERR, bits 10:8 (R22, R150). -/
  err : BitVec 3
  /-- TABLE[0] to TABLE[255] (R31). -/
  table : Vector Word 256
  /-- The model's own: what the host has still to bring to the CTE, in bus order (R62; notes/assumptions/2.md). -/
  pending : List BusEvent
  /-- The model's own: the response of the last event that had one (R67; notes/assumptions/3.md). -/
  lastResp : Option BusResponse
deriving DecidableEq, Repr

/-- Why the machine itself would stop with a fault: never. The CTE has no trap and no error response (R151, R156) and
no stuck state (R198); its errors are recorded in STATUS.ERR and the machine goes on (R152). No constructor: safe. -/
inductive Fault where
deriving DecidableEq, Repr

/-- Why the model gives a step no meaning. -/
inductive Refusal where
  /-- An instruction without a meaning in the model; raised by a refused arm of exec, of which there is none. Safe. -/
  | notModelled (mnemonic : String)
  /-- A byte or halfword access by the host, raised by the bus: "A model refuses such an access (it has no step),
  which errs toward unprovable" (R59). Safe. -/
  | narrowAccess
deriving DecidableEq, Repr

/-- The state after reset (R180), with no event pending. TABLE's contents are the model's choice
(notes/assumptions/1.md). -/
def State.reset : State where
  poly := Config.defaultPoly
  iv := Config.defaultIv
  xorout := true
  data := 0x00000000#32
  crc := 0x00000000#32
  result := 0x00000000#32
  resultRev := 0x00000000#32
  expected := 0x00000000#32
  tv := false
  m := false
  mf := false
  mr := false
  err := 0#3
  table := Vector.replicate 256 Config.tableEntryAtReset
  pending := []
  lastResp := none

end Sys2Proof.Machine
end

