-- ==== Sys2Proof/Machine/Flags.lean ====
section
/-!
DEFINITION. The flags and the error field of STATUS (spec/10_state.md R22, R34, R38; spec/60_exceptions.md R150): how
STATUS reads as a word, and the flag computations of MATCH (spec/42_compare_and_control.md R130).
-/

namespace Sys2Proof.Machine

/-- The error codes a command can raise (R150). Codes 3 to 7 are reserved and never written. -/
inductive ErrorCode where
  /-- The word is no command (R85). -/
  | illegal
  /-- FEED or FEEDW while STATUS.TV = 0 (R112, R114). -/
  | noTable
deriving DecidableEq, Repr

/-- The code's value in STATUS.ERR (R150). -/
def ErrorCode.code : ErrorCode → BitVec 3
  | .illegal => 1#3
  | .noTable => 2#3

/-- STATUS.ERR's value for "no error since the last CLRERR or reset" (R150). -/
def errNone : BitVec 3 := 0#3

/-- A one-bit value zero-extended to a word (R10). -/
def boolWord (b : Bool) : Word := (BitVec.ofBool b).setWidth 32

/-- STATUS as the host reads it (R22): TV bit 0, M bit 1, MF bit 2, MR bit 3, ERR bits 10:8, every other bit 0. -/
def statusWord (s : State) : Word :=
  boolWord s.tv ||| (boolWord s.m <<< 1) ||| (boolWord s.mf <<< 2) ||| (boolWord s.mr <<< 3)
    ||| (s.err.setWidth 32 <<< 8)

/-- CTRL as the host reads it (R25, R55): XOROUT in bit 0, bits 31:1 read 0. -/
def ctrlWord (s : State) : Word := boolWord s.xorout

/-- MF of MATCH: the forward checksum equals EXPECTED (R130). -/
def matchForward (s : State) : Bool := s.result == s.expected

/-- MR of MATCH: the byte-reversed checksum equals EXPECTED (R130). -/
def matchReversed (s : State) : Bool := s.resultRev == s.expected

end Sys2Proof.Machine
end

