-- ==== Sys2Proof/Machine/Operands.lean ====
section
/-!
DEFINITION. The operands of the commands (spec/30_encoding.md R84): FEEDW's count and the bytes of DATA it names
(spec/41_checksum.md R114). FEED's operand is its byte as it stands; every other operand is a register.
-/

namespace Sys2Proof.Machine

/-- Byte k of a word, bits [8k+7:8k], byte 0 the least significant (R9, R57). -/
def wordByte (v : Word) (k : Nat) : Byte := v.extractLsb' (8 * k) 8

/-- FEEDW's count is one of its legal values, 1 to 4 (R84, R114). -/
def feedwCountLegal (n : Byte) : Bool := decide (1 ≤ n.toNat) && decide (n.toNat ≤ 4)

/-- The n low bytes of a word in the order FEEDW consumes them, byte 0 first (R57, R114). -/
def lowBytes (v : Word) (n : Nat) : List Byte := (List.range n).map (wordByte v)

end Sys2Proof.Machine
end

