-- ==== Sys2Proof/Machine/Ops.lean ====
section
/-!
DEFINITION. The shared operations: the writes of each register and field, the engine's arithmetic (spec/00_scope.md
R10, spec/40_table_generation.md R100, spec/41_checksum.md R111), and raising and clearing an error
(spec/60_exceptions.md R152, R157).
-/

namespace Sys2Proof.Machine

/-! ### Register writes (`R <- v`, R11) -/

/-- `POLY <- v` alone; the host's write of POLY also clears TV (`writePoly`). -/
def State.setPoly (s : State) (v : Word) : State := { s with poly := v }

/-- `IV <- v` (R24). -/
def State.setIv (s : State) (v : Word) : State := { s with iv := v }

/-- `CTRL.XOROUT <- b` (R25). -/
def State.setXorout (s : State) (b : Bool) : State := { s with xorout := b }

/-- `DATA <- v` (R26). -/
def State.setData (s : State) (v : Word) : State := { s with data := v }

/-- `CRC <- v` (R27). -/
def State.setCrc (s : State) (v : Word) : State := { s with crc := v }

/-- `RESULT <- v` (R28). -/
def State.setResult (s : State) (v : Word) : State := { s with result := v }

/-- `RESULT_REV <- v` (R29). -/
def State.setResultRev (s : State) (v : Word) : State := { s with resultRev := v }

/-- `EXPECTED <- v` (R30). -/
def State.setExpected (s : State) (v : Word) : State := { s with expected := v }

/-- `STATUS.TV <- b` (R22). -/
def State.setTv (s : State) (b : Bool) : State := { s with tv := b }

/-- `STATUS.M <- m; STATUS.MF <- mf; STATUS.MR <- mr` (R22). -/
def State.setMatch (s : State) (m mf mr : Bool) : State := { s with m := m, mf := mf, mr := mr }

/-- `STATUS.ERR <- e` (R22). -/
def State.setErr (s : State) (e : BitVec 3) : State := { s with err := e }

/-- All 256 entries of TABLE (R31). -/
def State.setTable (s : State) (t : Vector Word 256) : State := { s with table := t }

/-- What the host has still to bring (the model's own field). -/
def State.setPending (s : State) (es : List BusEvent) : State := { s with pending := es }

/-- The bus response of the event (the model's own field). -/
def State.setResp (s : State) (r : Option BusResponse) : State := { s with lastResp := r }

/-! ### The engine's arithmetic -/

/-- `bswap32` (R10): "reverse the 4 constituent bytes". -/
def bswap32 (v : Word) : Word :=
  ((wordByte v 0).setWidth 32 <<< 24) ||| ((wordByte v 1).setWidth 32 <<< 16)
    ||| ((wordByte v 2).setWidth 32 <<< 8) ||| (wordByte v 3).setWidth 32

/-- One bit step of `TableEntry` (R100): the low bit is tested before the shift. -/
def tableBit (p c : Word) : Word := if c.getLsbD 0 then (c >>> 1) ^^^ p else c >>> 1

/-- `k` bit steps of `TableEntry` (R100). -/
def tableBits (p : Word) : Nat → Word → Word
  | 0, c => c
  | k + 1, c => tableBits p k (tableBit p c)

/-- `TableEntry(P, i)` (R100). -/
def tableEntry (p : Word) (i : Byte) : Word := tableBits p Config.bitsPerEntry (i.setWidth 32)

/-- The table of the polynomial `p`: entry i is `TableEntry(p, i)` (R100). Irreducible, so that proofs go through its
entries (`tableAt_buildTable`) and do not unfold 256 of them. -/
@[irreducible] def buildTable (p : Word) : Vector Word 256 := Vector.ofFn fun i => tableEntry p (BitVec.ofFin i)

/-- `TABLE[i]` for a byte i (R31). -/
def tableAt (t : Vector Word 256) (i : Byte) : Word := t[i.toNat]'i.isLt

/-- `Step(c, b)` (R111) through the table `t`. -/
def stepByte (t : Vector Word 256) (c : Word) (b : Byte) : Word :=
  (c >>> 8) ^^^ tableAt t (c.setWidth 8 ^^^ b)

/-- The running value after the bytes `bs`, in order (R113). -/
def absorb (t : Vector Word 256) (c : Word) (bs : List Byte) : Word := bs.foldl (stepByte t) c

/-- FINAL's output-XOR: the complement when XOROUT is 1, else the value itself (R116, R117). -/
def outputXor (x : Bool) (c : Word) : Word := if x then ~~~c else c

/-! ### Errors -/

/-- `raise CteError(code)` (R12, R152): the first error is kept, and the command writes no other state. This is all
there is of taking an exception: the CTE has no trap (R156). -/
def raiseError (c : ErrorCode) (s : State) : State := if s.err = errNone then s.setErr c.code else s

/-- `STATUS.ERR <- 0`, the way back from an error: there is no return-from-trap (R134, R157). -/
def clearError (s : State) : State := s.setErr errNone

/-! ### Shared parts of meanings and accesses -/

/-- What BUILD does besides the table: the computation state returns to its reset value (R100, 90_conflicts.md C3). -/
def clearComputation (s : State) : State :=
  (((s.setCrc 0x00000000#32).setResult 0x00000000#32).setResultRev 0x00000000#32).setMatch false false false

/-- FEED's and FEEDW's absorption of bytes: NO_TABLE while TV = 0, else CRC steps over the bytes (R112, R114). -/
def feedBytes (bs : List Byte) (s : State) : State :=
  if s.tv then s.setCrc (absorb s.table s.crc bs) else raiseError .noTable s

/-- The host's write of POLY (R23): POLY takes the value and the table becomes invalid, whatever either held. -/
def writePoly (v : Word) (s : State) : State := (s.setPoly v).setTv false

/-- Reset (R180): every register takes its reset value. What the host has still to bring is not the CTE's. -/
def applyReset (s : State) : State := State.reset.setPending s.pending

end Sys2Proof.Machine
end

