-- ==== Sys2Proof/Machine/Checksum.lean ====
section
/-!
DEFINITION. The checksum commands INIT, FEED, FEEDW and FINAL (spec/41_checksum.md R110 to R117).
-/

namespace Sys2Proof.Machine

/-- INIT (R110): `CRC <- IV`. It needs no table. -/
def execInit (s : State) : Host.Outcome State Fault Refusal := .next (s.setCrc s.iv)

/-- FEED b (R112): NO_TABLE while TV = 0, else CRC takes one table step with b. -/
def execFeed (b : Byte) (s : State) : Host.Outcome State Fault Refusal := .next (feedBytes [b] s)

/-- FEEDW n (R114): a count that is not 1 to 4 is ILLEGAL, checked first (R154); NO_TABLE while TV = 0; else CRC takes
one table step with each of the n low bytes of DATA, byte 0 first. -/
def execFeedw (n : Byte) (s : State) : Host.Outcome State Fault Refusal :=
  .next (if feedwCountLegal n then feedBytes (lowBytes s.data n.toNat) s else raiseError .illegal s)

/-- FINAL (R116): RESULT takes the running value after the output-XOR, RESULT_REV its byte reversal, and M, MF and MR
are cleared. CRC is kept. -/
def execFinal (s : State) : Host.Outcome State Fault Refusal :=
  let r := outputXor s.xorout s.crc
  .next (((s.setResult r).setResultRev (bswap32 r)).setMatch false false false)

end Sys2Proof.Machine
end

