-- ==== Sys2Proof/Machine/Control.lean ====
section
/-!
DEFINITION. The compare and control commands MATCH, CLRERR and NOP (spec/42_compare_and_control.md R130 to R136).
-/

namespace Sys2Proof.Machine

/-- MATCH (R130): MF, MR and M are overwritten by the two compares with EXPECTED and their or. -/
def execMatch (s : State) : Host.Outcome State Fault Refusal :=
  .next (s.setMatch (matchForward s || matchReversed s) (matchForward s) (matchReversed s))

/-- CLRERR (R134): ERR becomes 0. -/
def execClrerr (s : State) : Host.Outcome State Fault Refusal := .next (clearError s)

/-- NOP (R136): nothing. -/
def execNop (s : State) : Host.Outcome State Fault Refusal := .next s

end Sys2Proof.Machine
end

