-- ==== Sys2Proof/Machine/TableGeneration.lean ====
section
/-!
DEFINITION. The table generation command, BUILD (spec/40_table_generation.md R100, R102).
-/

namespace Sys2Proof.Machine

/-- BUILD (R100): TABLE becomes the table of POLY, TV is set, and the computation state is cleared. No POLY is an
error, and TV need not be set. -/
def execBuild (s : State) : Host.Outcome State Fault Refusal :=
  .next (clearComputation ((s.setTable (buildTable s.poly)).setTv true))

end Sys2Proof.Machine
end

