-- ==== Sys2Proof/Machine/Dispatch.lean ====
section
/-!
DEFINITION. The meaning of each command (spec/30_encoding.md R82, R83), one arm per constructor.
-/

namespace Sys2Proof.Machine

/-- The meaning of a command. -/
def exec (i : Instr) (s : State) : Host.Outcome State Fault Refusal :=
  match i with
  | .nop => Sys2Proof.Machine.execNop s
  | .build => Sys2Proof.Machine.execBuild s
  | .init => Sys2Proof.Machine.execInit s
  | .feed b => Sys2Proof.Machine.execFeed b s
  | .feedw n => Sys2Proof.Machine.execFeedw n s
  | .final => Sys2Proof.Machine.execFinal s
  | .matchExpected => Sys2Proof.Machine.execMatch s
  | .clrerr => Sys2Proof.Machine.execClrerr s

end Sys2Proof.Machine
end

