-- ==== Sys2Proof/Machine/Window.lean ====
section
/-!
DEFINITION. The register window (spec/20_memory.md R50 to R56): the address map, the host's read, the host's write of
every register but CMD, and where the platform's window stands.
-/

namespace Sys2Proof.Machine

/-- What stands at a word of the window (R20, R53). -/
inductive Reg where
  | cmd
  | status
  | poly
  | iv
  | ctrl
  | data
  | crc
  | result
  | resultRev
  | expected
  /-- TABLE[i]. -/
  | table (i : Byte)
  /-- A reserved offset (R54). -/
  | reserved
deriving DecidableEq, Repr

/-- `zext_32(a[11:2]) << 2` (R55, R56): address bits 1:0 are not decoded (R52). -/
def wordOffset (a : Offset) : Word := (a.extractLsb' 2 10).setWidth 32 <<< 2

/-- The address map (R20, R53, R55). -/
def regAt (a : Offset) : Reg :=
  let o := wordOffset a
  if o = 0x000#32 then .cmd
  else if o = 0x004#32 then .status
  else if o = 0x008#32 then .poly
  else if o = 0x00C#32 then .iv
  else if o = 0x010#32 then .ctrl
  else if o = 0x014#32 then .data
  else if o = 0x018#32 then .crc
  else if o = 0x01C#32 then .result
  else if o = 0x020#32 then .resultRev
  else if o = 0x024#32 then .expected
  else if 0x400#32 ≤ o ∧ o ≤ 0x7FC#32 then .table (((o - 0x400#32) >>> 2).setWidth 8)
  else .reserved

/-- The value the host reads of a register (R20 to R31, R54, R55): CMD and reserved offsets read 0, and TABLE reads 0
while TV = 0. -/
def readReg (r : Reg) (s : State) : Word :=
  match r with
  | .cmd => 0x00000000#32
  | .status => statusWord s
  | .poly => s.poly
  | .iv => s.iv
  | .ctrl => ctrlWord s
  | .data => s.data
  | .crc => s.crc
  | .result => s.result
  | .resultRev => s.resultRev
  | .expected => s.expected
  | .table i => bif s.tv then tableAt s.table i else 0x00000000#32
  | .reserved => 0x00000000#32

/-- `BusRead(a)` (R55): the value; a read has no side effect on any register (R60). -/
def busRead (a : Offset) (s : State) : Word := readReg (regAt a) s

/-- The host's write of any register but CMD (R56): STATUS, CRC, RESULT, RESULT_REV, TABLE and the reserved offsets
ignore it. A write of CMD is a command, not a register write: `busWrite`. -/
def writeReg (r : Reg) (v : Word) (s : State) : State :=
  match r with
  | .cmd => s
  | .status => s
  | .poly => writePoly v s
  | .iv => s.setIv v
  | .ctrl => s.setXorout (v.getLsbD 0)
  | .data => s.setData v
  | .crc => s
  | .result => s
  | .resultRev => s
  | .expected => s.setExpected v
  | .table _ => s
  | .reserved => s

/-- The host address of a window offset: `CTE_BASE` plus the offset (R52). -/
def hostAddress (a : Offset) : Nat := Config.cteBase + a.toNat

/-- The window offset of a host address; none where the address lies outside the window and the CTE is not selected
(R52, R162). -/
def windowOffset (addr : Nat) : Option Offset :=
  if Config.cteBase ≤ addr ∧ addr < Config.cteBase + 4096 then
    some (BitVec.ofNat 12 (addr - Config.cteBase))
  else none

end Sys2Proof.Machine
end

