-- ==== Sys2Proof/Machine/Bus.lean ====
section
/-!
DEFINITION. What the CTE does with what the bus brings (spec/20_memory.md R55, R56, R58, R59; spec/30_encoding.md R82;
spec/70_reset_and_hazards.md R180, R181): one event is one indivisible step.
-/

namespace Sys2Proof.Machine

/-- `Execute(w)` (R82): a word that is a command has the command's effect; any other raises ILLEGAL (R85). -/
def execute (w : Word) (s : State) : Host.Outcome State Fault Refusal :=
  match decode w with
  | .ok i => exec i s
  | .error _ => .next (raiseError .illegal s)

/-- `BusWrite(a, v)` (R56). -/
def busWrite (a : Offset) (v : Word) (s : State) : Host.Outcome State Fault Refusal :=
  if regAt a = .cmd then execute v s else .next (writeReg (regAt a) v s)

/-- How the host's blocked CMD write ends when a reset abandons its command: RESET_BUS_ABORT, open (R181). -/
def abortResponse : BusResponse := if Config.resetBusAbort then .writeAborted else .writeDone

/-- One event of the bus. Every word access completes without an error response (R151); a narrow access has no step
(R59); a reset wins over a command in progress (R155, R181). -/
def serve (e : BusEvent) (s : State) : Host.Outcome State Fault Refusal :=
  match e with
  | .read a => .next (s.setResp (some (.readData (busRead a s))))
  | .write a v => busWrite a v (s.setResp (some .writeDone))
  | .narrow _ _ _ => .refused .narrowAccess
  | .reset => .next (applyReset s)
  | .resetDuringCommand _ => .next ((applyReset s).setResp (some abortResponse))

end Sys2Proof.Machine
end

