-- ==== Sys2Proof/Machine/Step.lean ====
section
/-!
DEFINITION. One step of the CTE: the next event the host brings, in bus order (spec/20_memory.md R58, R62). The CTE
fetches nothing and runs no program (spec/10_state.md R35): the host's CMD writes are its commands.
-/

namespace Sys2Proof.Machine

/-- One step: the first pending event leaves the queue and is served; with none pending the bus is idle and every
register keeps its value (R67, R173). -/
def step (s : State) : Host.Outcome State Fault Refusal :=
  match s.pending with
  | [] => .next s
  | e :: rest => serve e (s.setPending rest)

/-- The state with the write of the word to CMD (offset 0x000) as the very next event of the bus
(notes/assumptions/2.md). -/
def State.withFetchWord (s : State) (nbits w : Nat) : State :=
  s.setPending (.write 0x000#12 (tableWord nbits w) :: s.pending)

end Sys2Proof.Machine
end

