-- ==== Sys2Proof/Machine/Assembler.lean ====
section
/-!
DEFINITION. The host-program syntax and its pseudo-instructions as bus events (spec/30_encoding.md R87, R88): what a
line of a host program brings to the CTE, and which lines an assembler refuses (`none`).
-/

namespace Sys2Proof.Machine

/-- `offset(REG)` (R20, R87); a reserved offset has no name. -/
def regOffset : Reg → Option Offset
  | .cmd => some 0x000#12
  | .status => some 0x004#12
  | .poly => some 0x008#12
  | .iv => some 0x00C#12
  | .ctrl => some 0x010#12
  | .data => some 0x014#12
  | .crc => some 0x018#12
  | .result => some 0x01C#12
  | .resultRev => some 0x020#12
  | .expected => some 0x024#12
  | .table i => some (0x400#12 + 4#12 * i.setWidth 12)
  | .reserved => none

/-- `wr REG, v` (R87). -/
def asmWr (r : Reg) (v : Word) : Option BusEvent := (regOffset r).map fun a => .write a v

/-- `rd REG` (R87). -/
def asmRd (r : Reg) : Option BusEvent := (regOffset r).map .read

/-- `rawcmd w` (R88): `wr CMD, w` for any word, legal or not. -/
def asmRawcmd (w : Word) : BusEvent := .write 0x000#12 w

/-- `nop` (R87). -/
def asmNop : BusEvent := asmRawcmd 0x00000000#32

/-- `build` (R87). -/
def asmBuild : BusEvent := asmRawcmd 0x01000000#32

/-- `init` (R87). -/
def asmInit : BusEvent := asmRawcmd 0x02000000#32

/-- The word `0x03000000 | b` of `feed b` (R87). -/
def asmFeedByte (b : Byte) : BusEvent := asmRawcmd (0x03000000#32 ||| b.setWidth 32)

/-- `feed b` (R87); an operand outside 0..255 is refused. -/
def asmFeed (b : Nat) : Option BusEvent := if b ≤ 255 then some (asmFeedByte (BitVec.ofNat 8 b)) else none

/-- `feedw n` (R87); an operand outside 1..4 is refused. -/
def asmFeedw (n : Nat) : Option BusEvent :=
  if 1 ≤ n ∧ n ≤ 4 then some (asmRawcmd (0x04000000#32 ||| BitVec.ofNat 32 n)) else none

/-- `final` (R87). -/
def asmFinal : BusEvent := asmRawcmd 0x05000000#32

/-- `match` (R87). -/
def asmMatch : BusEvent := asmRawcmd 0x06000000#32

/-- `clrerr` (R87). -/
def asmClrerr : BusEvent := asmRawcmd 0x07000000#32

/-- `feeds b1, ..., bk` (R88): refused if one of its `feed` lines is. -/
def asmFeeds (bs : List Nat) : Option (List BusEvent) := bs.mapM asmFeed

/-- `feedstr "text"` (R88): the ASCII codes in order; a character above 0x7F is refused. -/
def asmFeedstr (text : List Char) : Option (List BusEvent) :=
  if text.all (fun c => c.toNat ≤ 0x7F) then asmFeeds (text.map Char.toNat) else none

/-- The lines of one whole Compute around its feeds (R88, R118). -/
def computeLines (polyV ivV ctrlV : Word) (feeds : List BusEvent) : List BusEvent :=
  [.write 0x008#12 polyV, asmBuild, .write 0x00C#12 ivV, .write 0x010#12 ctrlV, asmInit] ++ feeds ++ [asmFinal]

/-- `crc POLYV, IVV, X, "text"` (R88). -/
def asmCrc (polyV ivV x : Word) (text : List Char) : Option (List BusEvent) :=
  (asmFeedstr text).map (computeLines polyV ivV x)

end Sys2Proof.Machine
end

