-- ==== Sys2Proof/Machine/Reference.lean ====
section
/-!
DEFINITION. The source's Compute and Matches as the spec writes them for reference (spec/41_checksum.md R118,
spec/42_compare_and_control.md R131), and the host sequences R118 and R131 compare with them.
-/

namespace Sys2Proof.Machine

/-- One byte of Compute (R118). -/
def computeByte (p c : Word) (b : Byte) : Word := (c >>> 8) ^^^ tableEntry p (c.setWidth 8 ^^^ b)

/-- `Compute(P, bytes, iv, x)` (R118). -/
def compute (p : Word) (bs : List Byte) (iv : Word) (x : Bool) : Word :=
  outputXor x (bs.foldl (computeByte p) iv)

/-- `Matches(P, c, bytes, iv, x)` (R131). -/
def matchesExpected (p c : Word) (bs : List Byte) (iv : Word) (x : Bool) : Bool :=
  (compute p bs iv x == c) || (bswap32 (compute p bs iv x) == c)

/-- The host sequence of R118: `wr POLY, P`, `build`, `wr IV, iv`, `wr CTRL, x`, `init`, the feeds, `final`. -/
def computeSequence (p iv : Word) (x : Bool) (bs : List Byte) : List BusEvent :=
  computeLines p iv (boolWord x) (bs.map asmFeedByte)

/-- The host sequence of R131: that of R118, `wr EXPECTED, c`, `match`. -/
def matchSequence (p iv : Word) (x : Bool) (bs : List Byte) (c : Word) : List BusEvent :=
  computeSequence p iv x bs ++ [.write 0x024#12 c, asmMatch]

end Sys2Proof.Machine
end

