-- ==== Sys2Proof/Safety.lean ====
section
/-!
DEFINITION. The terms of the claims: the invariants of spec/10_state.md R32 to R34 and of STATUS.ERR (spec/
60_exceptions.md R150), what the next step is about to do, which registers a command may write (R20), and when two
states differ in nothing that can be observed (R31).
-/

namespace Sys2Proof.Machine

/-- The invariants "at every point between commands". -/
structure Inv (s : State) : Prop where
  /-- `RESULT_REV == bswap32(RESULT)` (R32). -/
  resultPair : s.resultRev = bswap32 s.result
  /-- TV = 1 implies TABLE is the table of POLY (R33). -/
  tableOfPoly : s.tv = true → ∀ i : Byte, tableAt s.table i = tableEntry s.poly i
  /-- `STATUS.M == STATUS.MF | STATUS.MR` (R34). -/
  matchIsEither : s.m = (s.mf || s.mr)
  /-- ERR holds no reserved code (R150). -/
  errDefined : s.err = errNone ∨ s.err = ErrorCode.illegal.code ∨ s.err = ErrorCode.noTable.code

/-- `k` steps of the machine, stopping at a refusal. -/
def run (k : Nat) (s : State) : Host.Outcome State Fault Refusal := Host.Core.run Sys2Proof.core k s

/-- The command the next step runs, if it is a CMD write of a word that is a command. -/
def nextCommand (s : State) : Option Instr :=
  match s.pending with
  | .write a v :: _ => if regAt a = .cmd then (decode v).toOption else none
  | _ => none

/-- The next step is a CMD write of a word that is no command. -/
def nextIsIllegalWord (s : State) : Bool :=
  match s.pending with
  | .write a v :: _ => decide (regAt a = .cmd) && (decode v).toOption.isNone
  | _ => false

/-- The next step is a FEED or FEEDW while TV = 0. -/
def nextLacksTable (s : State) : Bool :=
  match nextCommand s with
  | some (.feed _) => !s.tv
  | some (.feedw _) => !s.tv
  | _ => false

/-- The next step is a host write of the register `r`. -/
def nextWrites (r : Reg) (s : State) : Bool :=
  match s.pending with
  | .write a _ :: _ => decide (regAt a = r)
  | _ => false

/-- The next step is a reset. -/
def nextIsReset (s : State) : Bool :=
  match s.pending with
  | .reset :: _ => true
  | .resetDuringCommand _ :: _ => true
  | _ => false

/-- The next step is an access the model refuses (R59). -/
def nextIsNarrow (s : State) : Bool :=
  match s.pending with
  | .narrow _ _ _ :: _ => true
  | _ => false

/-- A run is safe while the host brings word accesses and resets only (R51, R59). -/
def safeHost (s : State) : Prop := ∀ (w h : Bool) (a : Offset), BusEvent.narrow w h a ∉ s.pending

/-- The registers R20 lists as written by a command: a legal command writes no other, whatever its outcome. -/
def commandWrites : Instr → Reg → Bool
  | .nop, _ => false
  | .build, r => match r with
    | .status => true
    | .crc => true
    | .result => true
    | .resultRev => true
    | .table _ => true
    | _ => false
  | .init, r => r == .crc
  | .feed _, r => r == .crc || r == .status
  | .feedw _, r => r == .crc || r == .status
  | .final, r => r == .result || r == .resultRev || r == .status
  | .matchExpected, r => r == .status
  | .clrerr, r => r == .status

/-- Two states that differ in TABLE at most, and not while TV = 1 (R31). -/
def agreeButStaleTable (s t : State) : Prop :=
  t.setTable s.table = s ∧ (s.tv = true → t.table = s.table)

end Sys2Proof.Machine
end

