-- ==== Sys2Proof/Certificates/Slice0/Obligations.lean ====
section
/-!
DEFINITION. The statements for the provers, in the order of OBLIGATIONS.json. Results are stated as the whole next
state, `s with` the fields the rule writes: every other field is unchanged. The CTE has no memory and no program
counter (spec/20_memory.md R50, spec/10_state.md R35): the window of registers is its whole address space. The events
of the host stand in `pending` and the bus answer in `lastResp`: where a statement names one of these two fields, that
clause rests on the model's choice of them (notes/assumptions/2.md and 3.md).
-/

open Sys2Proof Sys2Proof.Machine

/-! ### Encoding -/

/-- R82, R83, R84: decoding the encoding of a well-formed command gives the command back, with its operand. -/
def Obligations.DecodeEncodeRoundTrip : Prop :=
  ∀ i : Instr, i.wellFormed = true → decode (encode i) = .ok i

/-- R82, R83: a word that decodes is the encoding of the command it decodes to, and that command is well formed; so
each command has one word. -/
def Obligations.EncodeOfDecodedWord : Prop :=
  ∀ (w : Word) (i : Instr), decode w = .ok i → encode i = w ∧ i.wellFormed = true

/-- R83: a word selects a row of the opcode map when `w & mask == match`, and FEEDW's row takes IMM8 in 1..4 only. -/
def Obligations.OpcodeMapSelectsCommands : Prop :=
  ∀ w : Word,
    (decode w = .ok .nop ↔ w &&& 0xFFFFFFFF#32 = 0x00000000#32)
    ∧ (decode w = .ok .build ↔ w &&& 0xFFFFFFFF#32 = 0x01000000#32)
    ∧ (decode w = .ok .init ↔ w &&& 0xFFFFFFFF#32 = 0x02000000#32)
    ∧ (∀ b : Byte, decode w = .ok (.feed b) ↔ w &&& 0xFFFFFF00#32 = 0x03000000#32 ∧ b = w.setWidth 8)
    ∧ (∀ n : Byte, decode w = .ok (.feedw n) ↔
        w &&& 0xFFFFFF00#32 = 0x04000000#32 ∧ n = w.setWidth 8 ∧ 1 ≤ n.toNat ∧ n.toNat ≤ 4)
    ∧ ((∃ n, decode w = .ok (.feedw n)) ↔
        w = 0x04000001#32 ∨ w = 0x04000002#32 ∨ w = 0x04000003#32 ∨ w = 0x04000004#32)
    ∧ (decode w = .ok .final ↔ w &&& 0xFFFFFFFF#32 = 0x05000000#32)
    ∧ (decode w = .ok .matchExpected ↔ w &&& 0xFFFFFFFF#32 = 0x06000000#32)
    ∧ (decode w = .ok .clrerr ↔ w &&& 0xFFFFFFFF#32 = 0x07000000#32)

/-- R85: the words that are no command are exactly those the rule lists (by OP = bits 31:24, RSV = bits 23:8, IMM8 =
bits 7:0), and executing one records ILLEGAL, code 1, if ERR is 0, and changes nothing else. -/
def Obligations.IllegalWordOnlyRecordsIllegal : Prop :=
  ∀ (w : Word),
    ((∃ e, decode w = .error e) ↔
      (8 ≤ w.toNat / 2 ^ 24
        ∨ w.toNat / 2 ^ 8 % 2 ^ 16 ≠ 0
        ∨ (w.toNat / 2 ^ 24 ∈ [0, 1, 2, 5, 6, 7] ∧ w.toNat % 2 ^ 8 ≠ 0)
        ∨ (w.toNat / 2 ^ 24 = 4 ∧ (w.toNat % 2 ^ 8 = 0 ∨ 5 ≤ w.toNat % 2 ^ 8))))
    ∧ ∀ (e : DecodeError) (s : State), decode w = .error e →
        execute w s = .next { s with err := if s.err = 0#3 then 1#3 else s.err }

/-- Words written out from the encodings of R83, R85 and R86, one for each command and some illegal ones. -/
def Obligations.WrittenWordsDecode : Prop :=
  decode 0x00000000#32 = .ok .nop ∧ decode 0x01000000#32 = .ok .build ∧ decode 0x02000000#32 = .ok .init
    ∧ decode 0x03000031#32 = .ok (.feed 0x31#8) ∧ decode 0x04000004#32 = .ok (.feedw 4#8)
    ∧ decode 0x05000000#32 = .ok .final ∧ decode 0x06000000#32 = .ok .matchExpected
    ∧ decode 0x07000000#32 = .ok .clrerr
    ∧ decode 0x04000005#32 = .error .badOperand ∧ decode 0x08000000#32 = .error .unknownOpcode
    ∧ decode 0xFFFFFFFF#32 = .error .reservedBits

/-- R82, R85, R114: executing the encoded word of a command is the command's meaning, for every operand, FEEDW's
illegal counts included (both are ILLEGAL). -/
def Obligations.EncodedWordExecutesItsCommand : Prop :=
  ∀ (i : Instr) (s : State), execute (encode i) s = exec i s

/-- R87: the assembler's lines are writes to CMD of the encodings, a feed operand outside 0..255 and a feedw operand
outside 1..4 are refused, and every named register's offset is its place in the address map. -/
def Obligations.AssemblerLinesAreEncodings : Prop :=
  (∀ b : Byte, asmFeed b.toNat = some (.write 0x000#12 (encode (.feed b))))
    ∧ (∀ b : Nat, asmFeed b = none ↔ 255 < b)
    ∧ (∀ n : Byte, 1 ≤ n.toNat → n.toNat ≤ 4 → asmFeedw n.toNat = some (.write 0x000#12 (encode (.feedw n))))
    ∧ (∀ n : Nat, asmFeedw n = none ↔ n = 0 ∨ 4 < n)
    ∧ asmNop = .write 0x000#12 (encode .nop) ∧ asmBuild = .write 0x000#12 (encode .build)
    ∧ asmInit = .write 0x000#12 (encode .init) ∧ asmFinal = .write 0x000#12 (encode .final)
    ∧ asmMatch = .write 0x000#12 (encode .matchExpected) ∧ asmClrerr = .write 0x000#12 (encode .clrerr)
    ∧ (∀ (r : Reg) (a : Offset), regOffset r = some a → regAt a = r)

/-- R88, R118: the `crc` pseudo-instruction of a text of characters 0x00 to 0x7F is the host sequence of one Compute over
their codes; of any other text it is refused. -/
def Obligations.CrcPseudoInstructionIsOneCompute : Prop :=
  ∀ (p iv : Word) (x : Bool) (text : List Char),
    ((∀ c ∈ text, c.toNat ≤ 0x7F) →
      asmCrc p iv (boolWord x) text =
        some (computeSequence p iv x (text.map fun c => BitVec.ofNat 8 c.toNat)))
    ∧ ((∃ c ∈ text, 0x7F < c.toNat) → asmCrc p iv (boolWord x) text = none)

/-! ### The step -/

/-- R56, R58, R82: when the next event writes to CMD a word that decodes to `i`, the step is `exec i`, of the state in
which the event has left the queue and the bus has answered it. Address bits 1:0 do not matter (R52). -/
def Obligations.StepRunsDecodedCommand : Prop :=
  ∀ (s : State) (a : Offset) (w : Word) (rest : List BusEvent) (i : Instr),
    s.pending = .write a w :: rest → a.toNat / 4 = 0 → decode w = .ok i →
      step s = exec i { s with pending := rest, lastResp := some .writeDone }

/-- A word that decodes, placed as the next CMD write, is read by the decoder as its command and runs as the very next
step, before every event pending already, which stay pending. -/
def Obligations.FetchWordRunsFirst : Prop :=
  ∀ (s : State) (w : Word) (i : Instr), decode w = .ok i →
    decodeTableWord 32 w.toNat = some i
    ∧ step (s.withFetchWord 32 w.toNat) = exec i { s with lastResp := some .writeDone }

/-- R85, R152: a step that writes an illegal word to CMD completes, and changes ERR only, and only if it was 0. -/
def Obligations.StepRecordsIllegalWord : Prop :=
  ∀ (s : State) (a : Offset) (w : Word) (rest : List BusEvent) (e : DecodeError),
    s.pending = .write a w :: rest → a.toNat / 4 = 0 → decode w = .error e →
      step s = .next { s with pending := rest, lastResp := some .writeDone,
                              err := if s.err = 0#3 then 1#3 else s.err }

/-- R151, R198, R59: a step gives a next state unless the host brings a byte or halfword access, which has no step; the
machine itself never faults. -/
def Obligations.OnlyNarrowAccessHasNoStep : Prop :=
  ∀ s : State,
    ((∃ (w h : Bool) (a : Offset) (rest : List BusEvent), s.pending = .narrow w h a :: rest) →
      step s = .refused .narrowAccess)
    ∧ ((¬ ∃ (w h : Bool) (a : Offset) (rest : List BusEvent), s.pending = .narrow w h a :: rest) →
      ∃ t, step s = .next t)

/-- R67, R173: with no event the CTE keeps every register, and the other state with it. -/
def Obligations.IdleBusKeepsState : Prop :=
  ∀ s : State, s.pending = [] → step s = .next s

/-! ### The commands -/

/-- R136: NOP changes nothing; a word of OP 0x00 with IMM8 or RSV not 0 is ILLEGAL. -/
def Obligations.NopChangesNothing : Prop :=
  (∀ s : State, exec .nop s = .next s) ∧ decode 0x00000000#32 = .ok .nop
    ∧ ∀ (w : Word) (s : State), w.toNat / 2 ^ 24 = 0 → w ≠ 0x00000000#32 →
        execute w s = .next { s with err := if s.err = 0#3 then 1#3 else s.err }

/-- R100: BUILD writes every TABLE entry with TableEntry(POLY, i), sets TV, clears CRC, RESULT, RESULT_REV, M, MF and
MR, and changes nothing else; any other word of its OP is ILLEGAL. TableEntry is eight bit steps from the index, each a
shift right by 1, with the polynomial where the low bit was set; the rule's four example entries are among the clauses. -/
def Obligations.BuildWritesTableOfPoly : Prop :=
  (∀ s : State, ∃ t,
      exec .build s = .next t
      ∧ (∀ i : Byte, tableAt t.table i = tableEntry s.poly i)
      ∧ t = { s with table := t.table, tv := true, crc := 0x00000000#32, result := 0x00000000#32,
                     resultRev := 0x00000000#32, m := false, mf := false, mr := false })
    ∧ (∀ (p : Word) (i : Byte), tableEntry p i =
        (List.range 8).foldl (fun c _ => if c.getLsbD 0 then (c >>> 1) ^^^ p else c >>> 1) (i.setWidth 32))
    ∧ tableEntry 0xEDB88320#32 0#8 = 0x00000000#32 ∧ tableEntry 0xEDB88320#32 1#8 = 0x77073096#32
    ∧ tableEntry 0xEDB88320#32 128#8 = 0xEDB88320#32 ∧ tableEntry 0xEDB88320#32 255#8 = 0x2D02EF8D#32
    ∧ decode 0x01000000#32 = .ok .build
    ∧ ∀ (w : Word) (s : State), w.toNat / 2 ^ 24 = 1 → w ≠ 0x01000000#32 →
        execute w s = .next { s with err := if s.err = 0#3 then 1#3 else s.err }

/-- R110: INIT makes CRC the value of IV and changes nothing else, whatever TV is. -/
def Obligations.InitStartsAtIv : Prop :=
  (∀ s : State, exec .init s = .next { s with crc := s.iv }) ∧ decode 0x02000000#32 = .ok .init
    ∧ ∀ (w : Word) (s : State), w.toNat / 2 ^ 24 = 2 → w ≠ 0x02000000#32 →
        execute w s = .next { s with err := if s.err = 0#3 then 1#3 else s.err }

/-- R111, R112: with TV = 1, FEED b takes CRC one table step, for every byte, and changes nothing else; with TV = 0 it
records NO_TABLE, code 2, if ERR is 0, and changes nothing else. -/
def Obligations.FeedTakesOneTableStep : Prop :=
  (∀ (b : Byte) (s : State), s.tv = true →
      exec (.feed b) s =
        .next { s with crc := (s.crc >>> 8) ^^^ tableAt s.table (s.crc.extractLsb' 0 8 ^^^ b) })
    ∧ (∀ (b : Byte) (s : State), s.tv = false →
      exec (.feed b) s = .next { s with err := if s.err = 0#3 then 2#3 else s.err })
    ∧ ∀ b : Byte, decode (0x03000000#32 ||| b.setWidth 32) = .ok (.feed b)

/-- R114, R154: FEEDW n with n in 1..4 and TV = 1 steps CRC over bytes 0 to n-1 of DATA in that order; with TV = 0 it
records NO_TABLE; any other n is ILLEGAL, whatever TV is. Nothing else changes. -/
def Obligations.FeedwStepsOverLowBytes : Prop :=
  (∀ (n : Byte) (s : State), 1 ≤ n.toNat → n.toNat ≤ 4 → s.tv = true →
      exec (.feedw n) s =
        let step1 := fun (c : Word) (k : Nat) =>
          (c >>> 8) ^^^ tableAt s.table (c.extractLsb' 0 8 ^^^ s.data.extractLsb' (8 * k) 8)
        .next { s with crc := (List.range n.toNat).foldl step1 s.crc })
    ∧ (∀ (n : Byte) (s : State), 1 ≤ n.toNat → n.toNat ≤ 4 → s.tv = false →
      exec (.feedw n) s = .next { s with err := if s.err = 0#3 then 2#3 else s.err })
    ∧ (∀ (n : Byte) (s : State), n.toNat = 0 ∨ 5 ≤ n.toNat →
      exec (.feedw n) s = .next { s with err := if s.err = 0#3 then 1#3 else s.err }
      ∧ execute (0x04000000#32 ||| n.setWidth 32) s = exec (.feedw n) s)
    ∧ ∀ n : Byte, 1 ≤ n.toNat → n.toNat ≤ 4 → decode (0x04000000#32 ||| n.setWidth 32) = .ok (.feedw n)

/-- R114: FEEDW n is equal in effect to FEED of DATA's bytes 0 to n-1, issued as n CMD writes in that order, but for
the bus's own fields; TV = 1. -/
def Obligations.FeedwEqualsFeeds : Prop :=
  ∀ (n : Byte) (s : State), 1 ≤ n.toNat → n.toNat ≤ 4 → s.tv = true →
    let feeds : List BusEvent := (List.range n.toNat).map fun k =>
      .write 0x000#12 (encode (.feed (s.data.extractLsb' (8 * k) 8)))
    ∃ t, exec (.feedw n) s = .next t
      ∧ run n.toNat { s with pending := feeds } =
          .next { t with pending := [], lastResp := some .writeDone }

/-- R116: FINAL writes RESULT with CRC, complemented when XOROUT = 1, and RESULT_REV with its byte reversal, clears M,
MF and MR, and changes nothing else. -/
def Obligations.FinalReturnsChecksum : Prop :=
  (∀ s : State, exec .final s =
      .next { s with result := if s.xorout then ~~~s.crc else s.crc,
                     resultRev := bswap32 (if s.xorout then ~~~s.crc else s.crc),
                     m := false, mf := false, mr := false })
    ∧ decode 0x05000000#32 = .ok .final
    ∧ ∀ (w : Word) (s : State), w.toNat / 2 ^ 24 = 5 → w ≠ 0x05000000#32 →
        execute w s = .next { s with err := if s.err = 0#3 then 1#3 else s.err }

/-- R10: the byte reversal puts byte k of the value at byte 3-k, and reversing twice gives the value back. -/
def Obligations.ByteReversalReversesBytes : Prop :=
  ∀ v : Word, (∀ k, k < 4 → (bswap32 v).extractLsb' (8 * k) 8 = v.extractLsb' (8 * (3 - k)) 8)
    ∧ bswap32 (bswap32 v) = v

/-- R130: MATCH overwrites MF and MR with the two compares and M with their or, and changes nothing else; it needs no
table and no FINAL. -/
def Obligations.MatchComparesBothForms : Prop :=
  (∀ s : State, ∃ t, exec .matchExpected s = .next t
      ∧ (t.mf = true ↔ s.result = s.expected) ∧ (t.mr = true ↔ s.resultRev = s.expected)
      ∧ (t.m = true ↔ s.result = s.expected ∨ s.resultRev = s.expected)
      ∧ t = { s with m := t.m, mf := t.mf, mr := t.mr })
    ∧ decode 0x06000000#32 = .ok .matchExpected
    ∧ ∀ (w : Word) (s : State), w.toNat / 2 ^ 24 = 6 → w ≠ 0x06000000#32 →
        execute w s = .next { s with err := if s.err = 0#3 then 1#3 else s.err }

/-- R134: CLRERR makes ERR 0 and changes nothing else; a malformed CLRERR is ILLEGAL and clears nothing. -/
def Obligations.ClrerrClearsErr : Prop :=
  (∀ s : State, exec .clrerr s = .next { s with err := 0#3 }) ∧ decode 0x07000000#32 = .ok .clrerr
    ∧ ∀ (w : Word) (s : State), w.toNat / 2 ^ 24 = 7 → w ≠ 0x07000000#32 →
        execute w s = .next { s with err := if s.err = 0#3 then 1#3 else s.err }

/-- R20: after a command, whatever its outcome, every place of the window that R20 does not list as written by it reads
as before, and the host's registers too. TABLE reads through TV, which of the commands BUILD alone writes. -/
def Obligations.CommandLeavesOtherOffsets : Prop :=
  ∀ (i : Instr) (s t : State) (a : Offset), exec i s = .next t →
    commandWrites i (regAt a) = false → busRead a t = busRead a s

/-! ### Errors -/

/-- R152: raising an error records its code if ERR is 0 and writes no other state; a word that fails (no command, or
FEED or FEEDW while TV = 0) does only that; and every word has the same effect on the other state whatever ERR holds. -/
def Obligations.FailingCommandOnlyRecordsFirstError : Prop :=
  (∀ (c : ErrorCode) (s : State), raiseError c s = { s with err := if s.err = 0#3 then c.code else s.err })
    ∧ (∀ (w : Word) (s : State),
        ((∃ e, decode w = .error e) → execute w s = .next (raiseError .illegal s))
        ∧ (s.tv = false → (∃ b, decode w = .ok (.feed b)) ∨ (∃ n, decode w = .ok (.feedw n)) →
            execute w s = .next (raiseError .noTable s)))
    ∧ ∀ (w : Word) (s t : State) (e : BitVec 3), execute w s = .next t →
        ∃ e', execute w { s with err := e } = .next { t with err := e' }

/-- R22, R38, R134: the flags and ERR change in a step only by the events the rules list: TV by BUILD, a write of POLY
and reset; M, MF and MR by MATCH, FINAL, BUILD and reset; ERR by a failing command, CLRERR and reset. -/
def Obligations.FlagsChangeOnlyByListedEvents : Prop :=
  ∀ s t : State, step s = .next t →
    (t.tv ≠ s.tv → nextCommand s = some .build ∨ nextWrites .poly s = true ∨ nextIsReset s = true)
    ∧ ((t.m ≠ s.m ∨ t.mf ≠ s.mf ∨ t.mr ≠ s.mr) →
        nextCommand s = some .matchExpected ∨ nextCommand s = some .final ∨ nextCommand s = some .build
        ∨ nextIsReset s = true)
    ∧ (t.err ≠ s.err →
        nextIsIllegalWord s = true ∨ nextLacksTable s = true ∨ nextCommand s = some .clrerr
        ∨ nextIsReset s = true)

/-! ### The registers over every event -/

/-- R20, R27 to R29, R31, R115: CRC, RESULT, RESULT_REV and TABLE change in a step only by the commands the rules list
and by reset; no host write of a register changes one. -/
def Obligations.EngineRegistersChangeOnlyByCommands : Prop :=
  ∀ s t : State, step s = .next t → nextIsReset s = false →
    (t.crc ≠ s.crc →
      nextCommand s = some .init ∨ (∃ b, nextCommand s = some (.feed b)) ∨ (∃ n, nextCommand s = some (.feedw n))
      ∨ nextCommand s = some .build)
    ∧ ((t.result ≠ s.result ∨ t.resultRev ≠ s.resultRev) →
      nextCommand s = some .final ∨ nextCommand s = some .build)
    ∧ (t.table ≠ s.table → nextCommand s = some .build)

/-- R20, R23 to R26, R30: POLY, IV, CTRL, DATA and EXPECTED change in a step only by a host write of the register itself
and by reset; no command writes one. -/
def Obligations.HostRegistersChangeOnlyByHostWrites : Prop :=
  ∀ s t : State, step s = .next t → nextIsReset s = false →
    (t.poly ≠ s.poly → nextWrites .poly s = true) ∧ (t.iv ≠ s.iv → nextWrites .iv s = true)
    ∧ (t.xorout ≠ s.xorout → nextWrites .ctrl s = true) ∧ (t.data ≠ s.data → nextWrites .data s = true)
    ∧ (t.expected ≠ s.expected → nextWrites .expected s = true)

/-- R193: a parameter is read by its one command only: every other command does the same whatever the parameter holds
and leaves it as it is; and no write of a register other than CMD changes an earlier result. -/
def Obligations.ParametersSampledByOneCommand : Prop :=
  (∀ (i : Instr) (s t : State), exec i s = .next t →
    (i ≠ .init → ∀ v, exec i { s with iv := v } = .next { t with iv := v })
    ∧ (i ≠ .final → ∀ b, exec i { s with xorout := b } = .next { t with xorout := b })
    ∧ ((∀ n, i ≠ .feedw n) → ∀ v, exec i { s with data := v } = .next { t with data := v })
    ∧ (i ≠ .matchExpected → ∀ v, exec i { s with expected := v } = .next { t with expected := v })
    ∧ (i ≠ .build → ∀ v, exec i { s with poly := v } = .next { t with poly := v }))
  ∧ ∀ (a : Offset) (v : Word) (s : State), a.toNat / 4 ≠ 0 → ∃ t, busWrite a v s = .next t
      ∧ t.crc = s.crc ∧ t.result = s.result ∧ t.resultRev = s.resultRev ∧ t.table = s.table
      ∧ t.m = s.m ∧ t.mf = s.mf ∧ t.mr = s.mr ∧ t.err = s.err

/-! ### The window -/

/-- R53, R54, R55: a read step answers with the value the address map gives the word `a / 4` of the window, and changes
no register. -/
def Obligations.ReadsFollowAddressMap : Prop :=
  ∀ (s : State) (a : Offset) (rest : List BusEvent), s.pending = .read a :: rest → ∃ v : Word,
    step s = .next { s with pending := rest, lastResp := some (.readData v) }
    ∧ (a.toNat / 4 = 0 → v = 0x00000000#32) ∧ (a.toNat / 4 = 1 → v = statusWord s)
    ∧ (a.toNat / 4 = 2 → v = s.poly) ∧ (a.toNat / 4 = 3 → v = s.iv)
    ∧ (a.toNat / 4 = 4 → v = if s.xorout then 0x00000001#32 else 0x00000000#32)
    ∧ (a.toNat / 4 = 5 → v = s.data) ∧ (a.toNat / 4 = 6 → v = s.crc) ∧ (a.toNat / 4 = 7 → v = s.result)
    ∧ (a.toNat / 4 = 8 → v = s.resultRev) ∧ (a.toNat / 4 = 9 → v = s.expected)
    ∧ (10 ≤ a.toNat / 4 → a.toNat / 4 < 256 → v = 0x00000000#32)
    ∧ (∀ i : Byte, a.toNat / 4 = 256 + i.toNat → v = if s.tv then tableAt s.table i else 0x00000000#32)
    ∧ (512 ≤ a.toNat / 4 → v = 0x00000000#32)

/-- R22: STATUS reads TV in bit 0, M in bit 1, MF in bit 2, MR in bit 3, ERR in bits 10:8 and 0 in every other bit. -/
def Obligations.StatusWordLayout : Prop :=
  ∀ (s : State) (k : Nat), (statusWord s).getLsbD k =
    if k = 0 then s.tv else if k = 1 then s.m else if k = 2 then s.mf else if k = 3 then s.mr
    else if 8 ≤ k ∧ k ≤ 10 then s.err.getLsbD (k - 8) else false

/-- R54, R56: a write step acts by the word `a / 4` of the window: CMD executes the word, POLY takes it and clears TV,
IV, DATA and EXPECTED take it, CTRL takes its bit 0, and STATUS, CRC, RESULT, RESULT_REV, TABLE and the reserved words
ignore it. -/
def Obligations.WritesFollowAddressMap : Prop :=
  ∀ (s : State) (a : Offset) (v : Word) (rest : List BusEvent), s.pending = .write a v :: rest →
    ∃ u : State, u = { s with pending := rest, lastResp := some .writeDone }
      ∧ (a.toNat / 4 = 0 → step s = execute v u)
      ∧ (a.toNat / 4 = 2 → step s = .next { u with poly := v, tv := false })
      ∧ (a.toNat / 4 = 3 → step s = .next { u with iv := v })
      ∧ (a.toNat / 4 = 4 → step s = .next { u with xorout := v.getLsbD 0 })
      ∧ (a.toNat / 4 = 5 → step s = .next { u with data := v })
      ∧ (a.toNat / 4 = 9 → step s = .next { u with expected := v })
      ∧ (a.toNat / 4 ∉ [0, 2, 3, 4, 5, 9] → step s = .next u)

/-- Address bits 1:0 are not decoded and the window's base is a multiple of 4096, as R52 says. That each of the 4096
host addresses from CTE_BASE on is one offset, and that no other host address selects the CTE, is the model's choice
(notes/assumptions/5.md, DESIGN CHOICE): R52 leaves the window's place to the platform. -/
def Obligations.WindowDecodesWordOffset : Prop :=
  (∀ (a b : Offset) (v : Word) (s : State), a.toNat / 4 = b.toNat / 4 →
      busRead a s = busRead b s ∧ busWrite a v s = busWrite b v s)
    ∧ Config.cteBase % 4096 = 0
    ∧ (∀ a : Offset, windowOffset (hostAddress a) = some a)
    ∧ (∀ n : Nat, windowOffset n = none ↔ n < Config.cteBase ∨ Config.cteBase + 4096 ≤ n)

/-- R25, R24, R26, R30: what a host write leaves to be read: IV, DATA and EXPECTED read back whole, POLY too, and CTRL
reads back bit 0 alone. -/
def Obligations.WrittenRegistersReadBack : Prop :=
  ∀ (a b : Offset) (v : Word) (s : State), a.toNat / 4 = b.toNat / 4 →
    (a.toNat / 4 ∈ [2, 3, 5, 9] → ∃ t, busWrite a v s = .next t ∧ busRead b t = v)
    ∧ (a.toNat / 4 = 4 → ∃ t, busWrite a v s = .next t ∧ busRead b t = v &&& 0x00000001#32)

/-- R60: writing a register other than CMD twice is the same as writing it once; a FEED of the same byte twice is two
table steps. -/
def Obligations.RegisterWritesAreIdempotent : Prop :=
  (∀ (a : Offset) (v : Word) (s : State), a.toNat / 4 ≠ 0 →
      ∃ t, busWrite a v s = .next t ∧ busWrite a v t = .next t)
    ∧ ∀ (b : Byte) (s : State), s.tv = true → ∃ t u,
        exec (.feed b) s = .next t ∧ exec (.feed b) t = .next u
        ∧ u.crc = stepByte s.table (stepByte s.table s.crc b) b

/-! ### Reset -/

/-- R180: the state after reset has the values the rule lists; CMD holds nothing and reads 0 (R55), and every entry of
TABLE reads 0, since TV is 0 (R31). What commands can observe of TABLE is said by StaleTableIsUnusable and
StaleTableIsUnobservable. -/
def Obligations.ResetStateValues : Prop :=
  statusWord State.reset = 0x00000000#32 ∧ State.reset.tv = false ∧ State.reset.m = false
    ∧ State.reset.mf = false ∧ State.reset.mr = false ∧ State.reset.err = 0#3
    ∧ State.reset.poly = 0xEDB88320#32 ∧ State.reset.iv = 0xFFFFFFFF#32 ∧ State.reset.xorout = true
    ∧ ctrlWord State.reset = 0x00000001#32
    ∧ State.reset.data = 0x00000000#32 ∧ State.reset.crc = 0x00000000#32 ∧ State.reset.result = 0x00000000#32
    ∧ State.reset.resultRev = 0x00000000#32 ∧ State.reset.expected = 0x00000000#32
    ∧ busRead 0x000#12 State.reset = 0x00000000#32
    ∧ ∀ i : Byte, readReg (.table i) State.reset = 0x00000000#32

/-- R180, R181, R155: a reset in any state, alone or abandoning any command word, leaves every register at its reset
value whatever the command was. The contents of TABLE and how the bus ended the write are not said. -/
def Obligations.ResetEventRestoresResetValues : Prop :=
  ∀ (s : State) (rest : List BusEvent) (w : Word),
    s.pending = .reset :: rest ∨ s.pending = .resetDuringCommand w :: rest →
      ∃ t, step s = .next t
        ∧ t = { State.reset with table := t.table, pending := rest, lastResp := t.lastResp }

/-! ### Invariants -/

/-- R32, R33, R34, R150: the reset state meets the invariants. -/
def Obligations.ResetMeetsInvariants : Prop := Inv State.reset

/-- R32, R33, R34, R150: every step, of any event from any state that meets the invariants, keeps them: RESULT_REV is
the byte reversal of RESULT, a valid TABLE is the table of POLY, M is MF or MR, and ERR holds no reserved code. -/
def Obligations.StepKeepsInvariants : Prop :=
  ∀ s t : State, Inv s → step s = .next t → Inv t

/-- R32, R33, R34: "at every point between commands" of any sequence of events the host brings after reset. -/
def Obligations.InvariantsHoldBetweenCommands : Prop :=
  ∀ (events : List BusEvent) (k : Nat) (t : State),
    run k (State.reset.setPending events) = .next t →
      t.resultRev = bswap32 t.result
      ∧ (t.tv = true → ∀ i : Byte, tableAt t.table i = tableEntry t.poly i)
      ∧ t.m = (t.mf || t.mr)

/-! ### Table generation, checksums and compares -/

/-- R101: TableEntry(P, 0) = 0, TableEntry(P, 128) = P, linearity in the index, and TableEntry(0, i) = 0. -/
def Obligations.TableEntryProperties : Prop :=
  (∀ p : Word, tableEntry p 0x00#8 = 0x00000000#32) ∧ (∀ p : Word, tableEntry p 0x80#8 = p)
    ∧ (∀ (p : Word) (i j : Byte), tableEntry p (i ^^^ j) = tableEntry p i ^^^ tableEntry p j)
    ∧ ∀ i : Byte, tableEntry 0x00000000#32 i = 0x00000000#32

/-- R118: from any state with no event pending, the host sequence of one Compute ends, after all its events, with
RESULT the source's Compute of the bytes under the polynomial, RESULT_REV its byte reversal, and ERR unchanged. -/
def Obligations.SequenceComputesChecksum : Prop :=
  ∀ (p iv : Word) (x : Bool) (bs : List Byte) (s : State), ∃ t,
    run (computeSequence p iv x bs).length { s with pending := computeSequence p iv x bs } = .next t
    ∧ t.pending = [] ∧ t.err = s.err
    ∧ t.result = compute p bs iv x ∧ t.resultRev = bswap32 (compute p bs iv x)

/-- R131: from any state, the sequence of R118 followed by `wr EXPECTED, c` and `match` ends with M the source's
Matches. -/
def Obligations.SequenceDecidesMatch : Prop :=
  ∀ (p iv c : Word) (x : Bool) (bs : List Byte) (s : State), ∃ t,
    run (matchSequence p iv x bs c).length { s with pending := matchSequence p iv x bs c } = .next t
    ∧ t.pending = [] ∧ t.m = matchesExpected p c bs iv x

/-- R100, 90_conflicts.md C3: what was computed before a BUILD does not survive it. Two states with the same inputs and
ERR, and the same bus, are equal after it. -/
def Obligations.BuildForgetsComputation : Prop :=
  ∀ s u : State, s.poly = u.poly → s.iv = u.iv → s.xorout = u.xorout → s.data = u.data →
    s.expected = u.expected → s.err = u.err → s.pending = u.pending → s.lastResp = u.lastResp →
      ∃ t, exec .build s = .next t ∧ exec .build u = .next t

/-- R190: a write of POLY, the same value included, makes TV 0; no step but a BUILD makes TV 1 again; and while TV is 0,
in every state, every TABLE entry reads 0 and FEED and FEEDW record NO_TABLE if ERR is 0 and change nothing else. -/
def Obligations.StaleTableIsUnusable : Prop :=
  (∀ (a : Offset) (v : Word) (s : State), a.toNat / 4 = 2 →
      ∃ t, busWrite a v s = .next t ∧ t.poly = v ∧ t.tv = false)
    ∧ (∀ s t : State, s.tv = false → step s = .next t → t.tv = true → nextCommand s = some .build)
    ∧ ∀ s : State, s.tv = false →
      (∀ (a : Offset) (i : Byte), a.toNat / 4 = 256 + i.toNat → busRead a s = 0x00000000#32)
      ∧ (∀ b : Byte, exec (.feed b) s = .next { s with err := if s.err = 0#3 then 2#3 else s.err })
      ∧ ∀ n : Byte, 1 ≤ n.toNat → n.toNat ≤ 4 →
          exec (.feedw n) s = .next { s with err := if s.err = 0#3 then 2#3 else s.err }

/-- R31, R180: while TV = 0 the contents of TABLE reach nothing. Two states that differ in TABLE at most, and not while
TV = 1, answer every event alike and step to two such states. It makes the model's reset contents of TABLE
(notes/assumptions/1.md) harmless. -/
def Obligations.StaleTableIsUnobservable : Prop :=
  ∀ s u s' : State, agreeButStaleTable s u → step s = .next s' →
    ∃ u', step u = .next u' ∧ agreeButStaleTable s' u' ∧ u'.lastResp = s'.lastResp
      ∧ ∀ a : Offset, busRead a u' = busRead a s'
end

