-- ==== Sys2Proof/Laws/State.lean ====
section
/-!
SUPPORT. What each register write does to each field of the state: one lemma per field per write, each true by rfl.
-/

namespace Sys2Proof.Machine

@[simp] theorem State.setPoly_poly (s : State) (v : Word) : (s.setPoly v).poly = v := rfl
@[simp] theorem State.setPoly_iv (s : State) (v : Word) : (s.setPoly v).iv = s.iv := rfl
@[simp] theorem State.setPoly_xorout (s : State) (v : Word) : (s.setPoly v).xorout = s.xorout := rfl
@[simp] theorem State.setPoly_data (s : State) (v : Word) : (s.setPoly v).data = s.data := rfl
@[simp] theorem State.setPoly_crc (s : State) (v : Word) : (s.setPoly v).crc = s.crc := rfl
@[simp] theorem State.setPoly_result (s : State) (v : Word) : (s.setPoly v).result = s.result := rfl
@[simp] theorem State.setPoly_resultRev (s : State) (v : Word) : (s.setPoly v).resultRev = s.resultRev := rfl
@[simp] theorem State.setPoly_expected (s : State) (v : Word) : (s.setPoly v).expected = s.expected := rfl
@[simp] theorem State.setPoly_tv (s : State) (v : Word) : (s.setPoly v).tv = s.tv := rfl
@[simp] theorem State.setPoly_m (s : State) (v : Word) : (s.setPoly v).m = s.m := rfl
@[simp] theorem State.setPoly_mf (s : State) (v : Word) : (s.setPoly v).mf = s.mf := rfl
@[simp] theorem State.setPoly_mr (s : State) (v : Word) : (s.setPoly v).mr = s.mr := rfl
@[simp] theorem State.setPoly_err (s : State) (v : Word) : (s.setPoly v).err = s.err := rfl
@[simp] theorem State.setPoly_table (s : State) (v : Word) : (s.setPoly v).table = s.table := rfl
@[simp] theorem State.setPoly_pending (s : State) (v : Word) : (s.setPoly v).pending = s.pending := rfl
@[simp] theorem State.setPoly_lastResp (s : State) (v : Word) : (s.setPoly v).lastResp = s.lastResp := rfl

@[simp] theorem State.setIv_poly (s : State) (v : Word) : (s.setIv v).poly = s.poly := rfl
@[simp] theorem State.setIv_iv (s : State) (v : Word) : (s.setIv v).iv = v := rfl
@[simp] theorem State.setIv_xorout (s : State) (v : Word) : (s.setIv v).xorout = s.xorout := rfl
@[simp] theorem State.setIv_data (s : State) (v : Word) : (s.setIv v).data = s.data := rfl
@[simp] theorem State.setIv_crc (s : State) (v : Word) : (s.setIv v).crc = s.crc := rfl
@[simp] theorem State.setIv_result (s : State) (v : Word) : (s.setIv v).result = s.result := rfl
@[simp] theorem State.setIv_resultRev (s : State) (v : Word) : (s.setIv v).resultRev = s.resultRev := rfl
@[simp] theorem State.setIv_expected (s : State) (v : Word) : (s.setIv v).expected = s.expected := rfl
@[simp] theorem State.setIv_tv (s : State) (v : Word) : (s.setIv v).tv = s.tv := rfl
@[simp] theorem State.setIv_m (s : State) (v : Word) : (s.setIv v).m = s.m := rfl
@[simp] theorem State.setIv_mf (s : State) (v : Word) : (s.setIv v).mf = s.mf := rfl
@[simp] theorem State.setIv_mr (s : State) (v : Word) : (s.setIv v).mr = s.mr := rfl
@[simp] theorem State.setIv_err (s : State) (v : Word) : (s.setIv v).err = s.err := rfl
@[simp] theorem State.setIv_table (s : State) (v : Word) : (s.setIv v).table = s.table := rfl
@[simp] theorem State.setIv_pending (s : State) (v : Word) : (s.setIv v).pending = s.pending := rfl
@[simp] theorem State.setIv_lastResp (s : State) (v : Word) : (s.setIv v).lastResp = s.lastResp := rfl

@[simp] theorem State.setXorout_poly (s : State) (b : Bool) : (s.setXorout b).poly = s.poly := rfl
@[simp] theorem State.setXorout_iv (s : State) (b : Bool) : (s.setXorout b).iv = s.iv := rfl
@[simp] theorem State.setXorout_xorout (s : State) (b : Bool) : (s.setXorout b).xorout = b := rfl
@[simp] theorem State.setXorout_data (s : State) (b : Bool) : (s.setXorout b).data = s.data := rfl
@[simp] theorem State.setXorout_crc (s : State) (b : Bool) : (s.setXorout b).crc = s.crc := rfl
@[simp] theorem State.setXorout_result (s : State) (b : Bool) : (s.setXorout b).result = s.result := rfl
@[simp] theorem State.setXorout_resultRev (s : State) (b : Bool) : (s.setXorout b).resultRev = s.resultRev := rfl
@[simp] theorem State.setXorout_expected (s : State) (b : Bool) : (s.setXorout b).expected = s.expected := rfl
@[simp] theorem State.setXorout_tv (s : State) (b : Bool) : (s.setXorout b).tv = s.tv := rfl
@[simp] theorem State.setXorout_m (s : State) (b : Bool) : (s.setXorout b).m = s.m := rfl
@[simp] theorem State.setXorout_mf (s : State) (b : Bool) : (s.setXorout b).mf = s.mf := rfl
@[simp] theorem State.setXorout_mr (s : State) (b : Bool) : (s.setXorout b).mr = s.mr := rfl
@[simp] theorem State.setXorout_err (s : State) (b : Bool) : (s.setXorout b).err = s.err := rfl
@[simp] theorem State.setXorout_table (s : State) (b : Bool) : (s.setXorout b).table = s.table := rfl
@[simp] theorem State.setXorout_pending (s : State) (b : Bool) : (s.setXorout b).pending = s.pending := rfl
@[simp] theorem State.setXorout_lastResp (s : State) (b : Bool) : (s.setXorout b).lastResp = s.lastResp := rfl

@[simp] theorem State.setData_poly (s : State) (v : Word) : (s.setData v).poly = s.poly := rfl
@[simp] theorem State.setData_iv (s : State) (v : Word) : (s.setData v).iv = s.iv := rfl
@[simp] theorem State.setData_xorout (s : State) (v : Word) : (s.setData v).xorout = s.xorout := rfl
@[simp] theorem State.setData_data (s : State) (v : Word) : (s.setData v).data = v := rfl
@[simp] theorem State.setData_crc (s : State) (v : Word) : (s.setData v).crc = s.crc := rfl
@[simp] theorem State.setData_result (s : State) (v : Word) : (s.setData v).result = s.result := rfl
@[simp] theorem State.setData_resultRev (s : State) (v : Word) : (s.setData v).resultRev = s.resultRev := rfl
@[simp] theorem State.setData_expected (s : State) (v : Word) : (s.setData v).expected = s.expected := rfl
@[simp] theorem State.setData_tv (s : State) (v : Word) : (s.setData v).tv = s.tv := rfl
@[simp] theorem State.setData_m (s : State) (v : Word) : (s.setData v).m = s.m := rfl
@[simp] theorem State.setData_mf (s : State) (v : Word) : (s.setData v).mf = s.mf := rfl
@[simp] theorem State.setData_mr (s : State) (v : Word) : (s.setData v).mr = s.mr := rfl
@[simp] theorem State.setData_err (s : State) (v : Word) : (s.setData v).err = s.err := rfl
@[simp] theorem State.setData_table (s : State) (v : Word) : (s.setData v).table = s.table := rfl
@[simp] theorem State.setData_pending (s : State) (v : Word) : (s.setData v).pending = s.pending := rfl
@[simp] theorem State.setData_lastResp (s : State) (v : Word) : (s.setData v).lastResp = s.lastResp := rfl

@[simp] theorem State.setCrc_poly (s : State) (v : Word) : (s.setCrc v).poly = s.poly := rfl
@[simp] theorem State.setCrc_iv (s : State) (v : Word) : (s.setCrc v).iv = s.iv := rfl
@[simp] theorem State.setCrc_xorout (s : State) (v : Word) : (s.setCrc v).xorout = s.xorout := rfl
@[simp] theorem State.setCrc_data (s : State) (v : Word) : (s.setCrc v).data = s.data := rfl
@[simp] theorem State.setCrc_crc (s : State) (v : Word) : (s.setCrc v).crc = v := rfl
@[simp] theorem State.setCrc_result (s : State) (v : Word) : (s.setCrc v).result = s.result := rfl
@[simp] theorem State.setCrc_resultRev (s : State) (v : Word) : (s.setCrc v).resultRev = s.resultRev := rfl
@[simp] theorem State.setCrc_expected (s : State) (v : Word) : (s.setCrc v).expected = s.expected := rfl
@[simp] theorem State.setCrc_tv (s : State) (v : Word) : (s.setCrc v).tv = s.tv := rfl
@[simp] theorem State.setCrc_m (s : State) (v : Word) : (s.setCrc v).m = s.m := rfl
@[simp] theorem State.setCrc_mf (s : State) (v : Word) : (s.setCrc v).mf = s.mf := rfl
@[simp] theorem State.setCrc_mr (s : State) (v : Word) : (s.setCrc v).mr = s.mr := rfl
@[simp] theorem State.setCrc_err (s : State) (v : Word) : (s.setCrc v).err = s.err := rfl
@[simp] theorem State.setCrc_table (s : State) (v : Word) : (s.setCrc v).table = s.table := rfl
@[simp] theorem State.setCrc_pending (s : State) (v : Word) : (s.setCrc v).pending = s.pending := rfl
@[simp] theorem State.setCrc_lastResp (s : State) (v : Word) : (s.setCrc v).lastResp = s.lastResp := rfl

@[simp] theorem State.setResult_poly (s : State) (v : Word) : (s.setResult v).poly = s.poly := rfl
@[simp] theorem State.setResult_iv (s : State) (v : Word) : (s.setResult v).iv = s.iv := rfl
@[simp] theorem State.setResult_xorout (s : State) (v : Word) : (s.setResult v).xorout = s.xorout := rfl
@[simp] theorem State.setResult_data (s : State) (v : Word) : (s.setResult v).data = s.data := rfl
@[simp] theorem State.setResult_crc (s : State) (v : Word) : (s.setResult v).crc = s.crc := rfl
@[simp] theorem State.setResult_result (s : State) (v : Word) : (s.setResult v).result = v := rfl
@[simp] theorem State.setResult_resultRev (s : State) (v : Word) : (s.setResult v).resultRev = s.resultRev := rfl
@[simp] theorem State.setResult_expected (s : State) (v : Word) : (s.setResult v).expected = s.expected := rfl
@[simp] theorem State.setResult_tv (s : State) (v : Word) : (s.setResult v).tv = s.tv := rfl
@[simp] theorem State.setResult_m (s : State) (v : Word) : (s.setResult v).m = s.m := rfl
@[simp] theorem State.setResult_mf (s : State) (v : Word) : (s.setResult v).mf = s.mf := rfl
@[simp] theorem State.setResult_mr (s : State) (v : Word) : (s.setResult v).mr = s.mr := rfl
@[simp] theorem State.setResult_err (s : State) (v : Word) : (s.setResult v).err = s.err := rfl
@[simp] theorem State.setResult_table (s : State) (v : Word) : (s.setResult v).table = s.table := rfl
@[simp] theorem State.setResult_pending (s : State) (v : Word) : (s.setResult v).pending = s.pending := rfl
@[simp] theorem State.setResult_lastResp (s : State) (v : Word) : (s.setResult v).lastResp = s.lastResp := rfl

@[simp] theorem State.setResultRev_poly (s : State) (v : Word) : (s.setResultRev v).poly = s.poly := rfl
@[simp] theorem State.setResultRev_iv (s : State) (v : Word) : (s.setResultRev v).iv = s.iv := rfl
@[simp] theorem State.setResultRev_xorout (s : State) (v : Word) : (s.setResultRev v).xorout = s.xorout := rfl
@[simp] theorem State.setResultRev_data (s : State) (v : Word) : (s.setResultRev v).data = s.data := rfl
@[simp] theorem State.setResultRev_crc (s : State) (v : Word) : (s.setResultRev v).crc = s.crc := rfl
@[simp] theorem State.setResultRev_result (s : State) (v : Word) : (s.setResultRev v).result = s.result := rfl
@[simp] theorem State.setResultRev_resultRev (s : State) (v : Word) : (s.setResultRev v).resultRev = v := rfl
@[simp] theorem State.setResultRev_expected (s : State) (v : Word) : (s.setResultRev v).expected = s.expected := rfl
@[simp] theorem State.setResultRev_tv (s : State) (v : Word) : (s.setResultRev v).tv = s.tv := rfl
@[simp] theorem State.setResultRev_m (s : State) (v : Word) : (s.setResultRev v).m = s.m := rfl
@[simp] theorem State.setResultRev_mf (s : State) (v : Word) : (s.setResultRev v).mf = s.mf := rfl
@[simp] theorem State.setResultRev_mr (s : State) (v : Word) : (s.setResultRev v).mr = s.mr := rfl
@[simp] theorem State.setResultRev_err (s : State) (v : Word) : (s.setResultRev v).err = s.err := rfl
@[simp] theorem State.setResultRev_table (s : State) (v : Word) : (s.setResultRev v).table = s.table := rfl
@[simp] theorem State.setResultRev_pending (s : State) (v : Word) : (s.setResultRev v).pending = s.pending := rfl
@[simp] theorem State.setResultRev_lastResp (s : State) (v : Word) : (s.setResultRev v).lastResp = s.lastResp := rfl

@[simp] theorem State.setExpected_poly (s : State) (v : Word) : (s.setExpected v).poly = s.poly := rfl
@[simp] theorem State.setExpected_iv (s : State) (v : Word) : (s.setExpected v).iv = s.iv := rfl
@[simp] theorem State.setExpected_xorout (s : State) (v : Word) : (s.setExpected v).xorout = s.xorout := rfl
@[simp] theorem State.setExpected_data (s : State) (v : Word) : (s.setExpected v).data = s.data := rfl
@[simp] theorem State.setExpected_crc (s : State) (v : Word) : (s.setExpected v).crc = s.crc := rfl
@[simp] theorem State.setExpected_result (s : State) (v : Word) : (s.setExpected v).result = s.result := rfl
@[simp] theorem State.setExpected_resultRev (s : State) (v : Word) : (s.setExpected v).resultRev = s.resultRev := rfl
@[simp] theorem State.setExpected_expected (s : State) (v : Word) : (s.setExpected v).expected = v := rfl
@[simp] theorem State.setExpected_tv (s : State) (v : Word) : (s.setExpected v).tv = s.tv := rfl
@[simp] theorem State.setExpected_m (s : State) (v : Word) : (s.setExpected v).m = s.m := rfl
@[simp] theorem State.setExpected_mf (s : State) (v : Word) : (s.setExpected v).mf = s.mf := rfl
@[simp] theorem State.setExpected_mr (s : State) (v : Word) : (s.setExpected v).mr = s.mr := rfl
@[simp] theorem State.setExpected_err (s : State) (v : Word) : (s.setExpected v).err = s.err := rfl
@[simp] theorem State.setExpected_table (s : State) (v : Word) : (s.setExpected v).table = s.table := rfl
@[simp] theorem State.setExpected_pending (s : State) (v : Word) : (s.setExpected v).pending = s.pending := rfl
@[simp] theorem State.setExpected_lastResp (s : State) (v : Word) : (s.setExpected v).lastResp = s.lastResp := rfl

@[simp] theorem State.setTv_poly (s : State) (b : Bool) : (s.setTv b).poly = s.poly := rfl
@[simp] theorem State.setTv_iv (s : State) (b : Bool) : (s.setTv b).iv = s.iv := rfl
@[simp] theorem State.setTv_xorout (s : State) (b : Bool) : (s.setTv b).xorout = s.xorout := rfl
@[simp] theorem State.setTv_data (s : State) (b : Bool) : (s.setTv b).data = s.data := rfl
@[simp] theorem State.setTv_crc (s : State) (b : Bool) : (s.setTv b).crc = s.crc := rfl
@[simp] theorem State.setTv_result (s : State) (b : Bool) : (s.setTv b).result = s.result := rfl
@[simp] theorem State.setTv_resultRev (s : State) (b : Bool) : (s.setTv b).resultRev = s.resultRev := rfl
@[simp] theorem State.setTv_expected (s : State) (b : Bool) : (s.setTv b).expected = s.expected := rfl
@[simp] theorem State.setTv_tv (s : State) (b : Bool) : (s.setTv b).tv = b := rfl
@[simp] theorem State.setTv_m (s : State) (b : Bool) : (s.setTv b).m = s.m := rfl
@[simp] theorem State.setTv_mf (s : State) (b : Bool) : (s.setTv b).mf = s.mf := rfl
@[simp] theorem State.setTv_mr (s : State) (b : Bool) : (s.setTv b).mr = s.mr := rfl
@[simp] theorem State.setTv_err (s : State) (b : Bool) : (s.setTv b).err = s.err := rfl
@[simp] theorem State.setTv_table (s : State) (b : Bool) : (s.setTv b).table = s.table := rfl
@[simp] theorem State.setTv_pending (s : State) (b : Bool) : (s.setTv b).pending = s.pending := rfl
@[simp] theorem State.setTv_lastResp (s : State) (b : Bool) : (s.setTv b).lastResp = s.lastResp := rfl

@[simp] theorem State.setMatch_poly (s : State) (x y z : Bool) : (s.setMatch x y z).poly = s.poly := rfl
@[simp] theorem State.setMatch_iv (s : State) (x y z : Bool) : (s.setMatch x y z).iv = s.iv := rfl
@[simp] theorem State.setMatch_xorout (s : State) (x y z : Bool) : (s.setMatch x y z).xorout = s.xorout := rfl
@[simp] theorem State.setMatch_data (s : State) (x y z : Bool) : (s.setMatch x y z).data = s.data := rfl
@[simp] theorem State.setMatch_crc (s : State) (x y z : Bool) : (s.setMatch x y z).crc = s.crc := rfl
@[simp] theorem State.setMatch_result (s : State) (x y z : Bool) : (s.setMatch x y z).result = s.result := rfl
@[simp] theorem State.setMatch_resultRev (s : State) (x y z : Bool) : (s.setMatch x y z).resultRev = s.resultRev := rfl
@[simp] theorem State.setMatch_expected (s : State) (x y z : Bool) : (s.setMatch x y z).expected = s.expected := rfl
@[simp] theorem State.setMatch_tv (s : State) (x y z : Bool) : (s.setMatch x y z).tv = s.tv := rfl
@[simp] theorem State.setMatch_m (s : State) (x y z : Bool) : (s.setMatch x y z).m = x := rfl
@[simp] theorem State.setMatch_mf (s : State) (x y z : Bool) : (s.setMatch x y z).mf = y := rfl
@[simp] theorem State.setMatch_mr (s : State) (x y z : Bool) : (s.setMatch x y z).mr = z := rfl
@[simp] theorem State.setMatch_err (s : State) (x y z : Bool) : (s.setMatch x y z).err = s.err := rfl
@[simp] theorem State.setMatch_table (s : State) (x y z : Bool) : (s.setMatch x y z).table = s.table := rfl
@[simp] theorem State.setMatch_pending (s : State) (x y z : Bool) : (s.setMatch x y z).pending = s.pending := rfl
@[simp] theorem State.setMatch_lastResp (s : State) (x y z : Bool) : (s.setMatch x y z).lastResp = s.lastResp := rfl

@[simp] theorem State.setErr_poly (s : State) (e : BitVec 3) : (s.setErr e).poly = s.poly := rfl
@[simp] theorem State.setErr_iv (s : State) (e : BitVec 3) : (s.setErr e).iv = s.iv := rfl
@[simp] theorem State.setErr_xorout (s : State) (e : BitVec 3) : (s.setErr e).xorout = s.xorout := rfl
@[simp] theorem State.setErr_data (s : State) (e : BitVec 3) : (s.setErr e).data = s.data := rfl
@[simp] theorem State.setErr_crc (s : State) (e : BitVec 3) : (s.setErr e).crc = s.crc := rfl
@[simp] theorem State.setErr_result (s : State) (e : BitVec 3) : (s.setErr e).result = s.result := rfl
@[simp] theorem State.setErr_resultRev (s : State) (e : BitVec 3) : (s.setErr e).resultRev = s.resultRev := rfl
@[simp] theorem State.setErr_expected (s : State) (e : BitVec 3) : (s.setErr e).expected = s.expected := rfl
@[simp] theorem State.setErr_tv (s : State) (e : BitVec 3) : (s.setErr e).tv = s.tv := rfl
@[simp] theorem State.setErr_m (s : State) (e : BitVec 3) : (s.setErr e).m = s.m := rfl
@[simp] theorem State.setErr_mf (s : State) (e : BitVec 3) : (s.setErr e).mf = s.mf := rfl
@[simp] theorem State.setErr_mr (s : State) (e : BitVec 3) : (s.setErr e).mr = s.mr := rfl
@[simp] theorem State.setErr_err (s : State) (e : BitVec 3) : (s.setErr e).err = e := rfl
@[simp] theorem State.setErr_table (s : State) (e : BitVec 3) : (s.setErr e).table = s.table := rfl
@[simp] theorem State.setErr_pending (s : State) (e : BitVec 3) : (s.setErr e).pending = s.pending := rfl
@[simp] theorem State.setErr_lastResp (s : State) (e : BitVec 3) : (s.setErr e).lastResp = s.lastResp := rfl

@[simp] theorem State.setTable_poly (s : State) (t : Vector Word 256) : (s.setTable t).poly = s.poly := rfl
@[simp] theorem State.setTable_iv (s : State) (t : Vector Word 256) : (s.setTable t).iv = s.iv := rfl
@[simp] theorem State.setTable_xorout (s : State) (t : Vector Word 256) : (s.setTable t).xorout = s.xorout := rfl
@[simp] theorem State.setTable_data (s : State) (t : Vector Word 256) : (s.setTable t).data = s.data := rfl
@[simp] theorem State.setTable_crc (s : State) (t : Vector Word 256) : (s.setTable t).crc = s.crc := rfl
@[simp] theorem State.setTable_result (s : State) (t : Vector Word 256) : (s.setTable t).result = s.result := rfl
@[simp] theorem State.setTable_resultRev (s : State) (t : Vector Word 256) : (s.setTable t).resultRev = s.resultRev := rfl
@[simp] theorem State.setTable_expected (s : State) (t : Vector Word 256) : (s.setTable t).expected = s.expected := rfl
@[simp] theorem State.setTable_tv (s : State) (t : Vector Word 256) : (s.setTable t).tv = s.tv := rfl
@[simp] theorem State.setTable_m (s : State) (t : Vector Word 256) : (s.setTable t).m = s.m := rfl
@[simp] theorem State.setTable_mf (s : State) (t : Vector Word 256) : (s.setTable t).mf = s.mf := rfl
@[simp] theorem State.setTable_mr (s : State) (t : Vector Word 256) : (s.setTable t).mr = s.mr := rfl
@[simp] theorem State.setTable_err (s : State) (t : Vector Word 256) : (s.setTable t).err = s.err := rfl
@[simp] theorem State.setTable_table (s : State) (t : Vector Word 256) : (s.setTable t).table = t := rfl
@[simp] theorem State.setTable_pending (s : State) (t : Vector Word 256) : (s.setTable t).pending = s.pending := rfl
@[simp] theorem State.setTable_lastResp (s : State) (t : Vector Word 256) : (s.setTable t).lastResp = s.lastResp := rfl

@[simp] theorem State.setPending_poly (s : State) (es : List BusEvent) : (s.setPending es).poly = s.poly := rfl
@[simp] theorem State.setPending_iv (s : State) (es : List BusEvent) : (s.setPending es).iv = s.iv := rfl
@[simp] theorem State.setPending_xorout (s : State) (es : List BusEvent) : (s.setPending es).xorout = s.xorout := rfl
@[simp] theorem State.setPending_data (s : State) (es : List BusEvent) : (s.setPending es).data = s.data := rfl
@[simp] theorem State.setPending_crc (s : State) (es : List BusEvent) : (s.setPending es).crc = s.crc := rfl
@[simp] theorem State.setPending_result (s : State) (es : List BusEvent) : (s.setPending es).result = s.result := rfl
@[simp] theorem State.setPending_resultRev (s : State) (es : List BusEvent) : (s.setPending es).resultRev = s.resultRev := rfl
@[simp] theorem State.setPending_expected (s : State) (es : List BusEvent) : (s.setPending es).expected = s.expected := rfl
@[simp] theorem State.setPending_tv (s : State) (es : List BusEvent) : (s.setPending es).tv = s.tv := rfl
@[simp] theorem State.setPending_m (s : State) (es : List BusEvent) : (s.setPending es).m = s.m := rfl
@[simp] theorem State.setPending_mf (s : State) (es : List BusEvent) : (s.setPending es).mf = s.mf := rfl
@[simp] theorem State.setPending_mr (s : State) (es : List BusEvent) : (s.setPending es).mr = s.mr := rfl
@[simp] theorem State.setPending_err (s : State) (es : List BusEvent) : (s.setPending es).err = s.err := rfl
@[simp] theorem State.setPending_table (s : State) (es : List BusEvent) : (s.setPending es).table = s.table := rfl
@[simp] theorem State.setPending_pending (s : State) (es : List BusEvent) : (s.setPending es).pending = es := rfl
@[simp] theorem State.setPending_lastResp (s : State) (es : List BusEvent) : (s.setPending es).lastResp = s.lastResp := rfl

@[simp] theorem State.setResp_poly (s : State) (r : Option BusResponse) : (s.setResp r).poly = s.poly := rfl
@[simp] theorem State.setResp_iv (s : State) (r : Option BusResponse) : (s.setResp r).iv = s.iv := rfl
@[simp] theorem State.setResp_xorout (s : State) (r : Option BusResponse) : (s.setResp r).xorout = s.xorout := rfl
@[simp] theorem State.setResp_data (s : State) (r : Option BusResponse) : (s.setResp r).data = s.data := rfl
@[simp] theorem State.setResp_crc (s : State) (r : Option BusResponse) : (s.setResp r).crc = s.crc := rfl
@[simp] theorem State.setResp_result (s : State) (r : Option BusResponse) : (s.setResp r).result = s.result := rfl
@[simp] theorem State.setResp_resultRev (s : State) (r : Option BusResponse) : (s.setResp r).resultRev = s.resultRev := rfl
@[simp] theorem State.setResp_expected (s : State) (r : Option BusResponse) : (s.setResp r).expected = s.expected := rfl
@[simp] theorem State.setResp_tv (s : State) (r : Option BusResponse) : (s.setResp r).tv = s.tv := rfl
@[simp] theorem State.setResp_m (s : State) (r : Option BusResponse) : (s.setResp r).m = s.m := rfl
@[simp] theorem State.setResp_mf (s : State) (r : Option BusResponse) : (s.setResp r).mf = s.mf := rfl
@[simp] theorem State.setResp_mr (s : State) (r : Option BusResponse) : (s.setResp r).mr = s.mr := rfl
@[simp] theorem State.setResp_err (s : State) (r : Option BusResponse) : (s.setResp r).err = s.err := rfl
@[simp] theorem State.setResp_table (s : State) (r : Option BusResponse) : (s.setResp r).table = s.table := rfl
@[simp] theorem State.setResp_pending (s : State) (r : Option BusResponse) : (s.setResp r).pending = s.pending := rfl
@[simp] theorem State.setResp_lastResp (s : State) (r : Option BusResponse) : (s.setResp r).lastResp = r := rfl

@[simp] theorem applyReset_poly (s : State) : (applyReset s).poly = State.reset.poly := rfl
@[simp] theorem applyReset_iv (s : State) : (applyReset s).iv = State.reset.iv := rfl
@[simp] theorem applyReset_xorout (s : State) : (applyReset s).xorout = State.reset.xorout := rfl
@[simp] theorem applyReset_data (s : State) : (applyReset s).data = State.reset.data := rfl
@[simp] theorem applyReset_crc (s : State) : (applyReset s).crc = State.reset.crc := rfl
@[simp] theorem applyReset_result (s : State) : (applyReset s).result = State.reset.result := rfl
@[simp] theorem applyReset_resultRev (s : State) : (applyReset s).resultRev = State.reset.resultRev := rfl
@[simp] theorem applyReset_expected (s : State) : (applyReset s).expected = State.reset.expected := rfl
@[simp] theorem applyReset_tv (s : State) : (applyReset s).tv = State.reset.tv := rfl
@[simp] theorem applyReset_m (s : State) : (applyReset s).m = State.reset.m := rfl
@[simp] theorem applyReset_mf (s : State) : (applyReset s).mf = State.reset.mf := rfl
@[simp] theorem applyReset_mr (s : State) : (applyReset s).mr = State.reset.mr := rfl
@[simp] theorem applyReset_err (s : State) : (applyReset s).err = State.reset.err := rfl
@[simp] theorem applyReset_table (s : State) : (applyReset s).table = State.reset.table := rfl
@[simp] theorem applyReset_pending (s : State) : (applyReset s).pending = s.pending := rfl
@[simp] theorem applyReset_lastResp (s : State) : (applyReset s).lastResp = State.reset.lastResp := rfl

@[simp] theorem State.reset_poly : State.reset.poly = 0xEDB88320#32 := rfl
@[simp] theorem State.reset_iv : State.reset.iv = 0xFFFFFFFF#32 := rfl
@[simp] theorem State.reset_xorout : State.reset.xorout = true := rfl
@[simp] theorem State.reset_data : State.reset.data = 0x00000000#32 := rfl
@[simp] theorem State.reset_crc : State.reset.crc = 0x00000000#32 := rfl
@[simp] theorem State.reset_result : State.reset.result = 0x00000000#32 := rfl
@[simp] theorem State.reset_resultRev : State.reset.resultRev = 0x00000000#32 := rfl
@[simp] theorem State.reset_expected : State.reset.expected = 0x00000000#32 := rfl
@[simp] theorem State.reset_tv : State.reset.tv = false := rfl
@[simp] theorem State.reset_m : State.reset.m = false := rfl
@[simp] theorem State.reset_mf : State.reset.mf = false := rfl
@[simp] theorem State.reset_mr : State.reset.mr = false := rfl
@[simp] theorem State.reset_err : State.reset.err = 0#3 := rfl
@[simp] theorem State.reset_pending : State.reset.pending = [] := rfl
@[simp] theorem State.reset_lastResp : State.reset.lastResp = none := rfl

@[simp] theorem clearComputation_poly (s : State) : (clearComputation s).poly = s.poly := rfl
@[simp] theorem clearComputation_iv (s : State) : (clearComputation s).iv = s.iv := rfl
@[simp] theorem clearComputation_xorout (s : State) : (clearComputation s).xorout = s.xorout := rfl
@[simp] theorem clearComputation_data (s : State) : (clearComputation s).data = s.data := rfl
@[simp] theorem clearComputation_crc (s : State) : (clearComputation s).crc = 0x00000000#32 := rfl
@[simp] theorem clearComputation_result (s : State) : (clearComputation s).result = 0x00000000#32 := rfl
@[simp] theorem clearComputation_resultRev (s : State) : (clearComputation s).resultRev = 0x00000000#32 := rfl
@[simp] theorem clearComputation_expected (s : State) : (clearComputation s).expected = s.expected := rfl
@[simp] theorem clearComputation_tv (s : State) : (clearComputation s).tv = s.tv := rfl
@[simp] theorem clearComputation_m (s : State) : (clearComputation s).m = false := rfl
@[simp] theorem clearComputation_mf (s : State) : (clearComputation s).mf = false := rfl
@[simp] theorem clearComputation_mr (s : State) : (clearComputation s).mr = false := rfl
@[simp] theorem clearComputation_err (s : State) : (clearComputation s).err = s.err := rfl
@[simp] theorem clearComputation_table (s : State) : (clearComputation s).table = s.table := rfl
@[simp] theorem clearComputation_pending (s : State) : (clearComputation s).pending = s.pending := rfl
@[simp] theorem clearComputation_lastResp (s : State) : (clearComputation s).lastResp = s.lastResp := rfl

@[simp] theorem writePoly_poly (v : Word) (s : State) : (writePoly v s).poly = v := rfl
@[simp] theorem writePoly_iv (v : Word) (s : State) : (writePoly v s).iv = s.iv := rfl
@[simp] theorem writePoly_xorout (v : Word) (s : State) : (writePoly v s).xorout = s.xorout := rfl
@[simp] theorem writePoly_data (v : Word) (s : State) : (writePoly v s).data = s.data := rfl
@[simp] theorem writePoly_crc (v : Word) (s : State) : (writePoly v s).crc = s.crc := rfl
@[simp] theorem writePoly_result (v : Word) (s : State) : (writePoly v s).result = s.result := rfl
@[simp] theorem writePoly_resultRev (v : Word) (s : State) : (writePoly v s).resultRev = s.resultRev := rfl
@[simp] theorem writePoly_expected (v : Word) (s : State) : (writePoly v s).expected = s.expected := rfl
@[simp] theorem writePoly_tv (v : Word) (s : State) : (writePoly v s).tv = false := rfl
@[simp] theorem writePoly_m (v : Word) (s : State) : (writePoly v s).m = s.m := rfl
@[simp] theorem writePoly_mf (v : Word) (s : State) : (writePoly v s).mf = s.mf := rfl
@[simp] theorem writePoly_mr (v : Word) (s : State) : (writePoly v s).mr = s.mr := rfl
@[simp] theorem writePoly_err (v : Word) (s : State) : (writePoly v s).err = s.err := rfl
@[simp] theorem writePoly_table (v : Word) (s : State) : (writePoly v s).table = s.table := rfl
@[simp] theorem writePoly_pending (v : Word) (s : State) : (writePoly v s).pending = s.pending := rfl
@[simp] theorem writePoly_lastResp (v : Word) (s : State) : (writePoly v s).lastResp = s.lastResp := rfl

@[simp] theorem clearError_poly (s : State) : (clearError s).poly = s.poly := rfl
@[simp] theorem clearError_iv (s : State) : (clearError s).iv = s.iv := rfl
@[simp] theorem clearError_xorout (s : State) : (clearError s).xorout = s.xorout := rfl
@[simp] theorem clearError_data (s : State) : (clearError s).data = s.data := rfl
@[simp] theorem clearError_crc (s : State) : (clearError s).crc = s.crc := rfl
@[simp] theorem clearError_result (s : State) : (clearError s).result = s.result := rfl
@[simp] theorem clearError_resultRev (s : State) : (clearError s).resultRev = s.resultRev := rfl
@[simp] theorem clearError_expected (s : State) : (clearError s).expected = s.expected := rfl
@[simp] theorem clearError_tv (s : State) : (clearError s).tv = s.tv := rfl
@[simp] theorem clearError_m (s : State) : (clearError s).m = s.m := rfl
@[simp] theorem clearError_mf (s : State) : (clearError s).mf = s.mf := rfl
@[simp] theorem clearError_mr (s : State) : (clearError s).mr = s.mr := rfl
@[simp] theorem clearError_err (s : State) : (clearError s).err = errNone := rfl
@[simp] theorem clearError_table (s : State) : (clearError s).table = s.table := rfl
@[simp] theorem clearError_pending (s : State) : (clearError s).pending = s.pending := rfl
@[simp] theorem clearError_lastResp (s : State) : (clearError s).lastResp = s.lastResp := rfl

end Sys2Proof.Machine
end

