-- ==== Sys2Proof/Laws/Ops.lean ====
section
/-!
SUPPORT. For each shared operation, one lemma that says once everything it can do, and its effect on each field; later
proofs cite these and do not unfold the operation.
-/

namespace Sys2Proof.Machine

/-! ### Errors -/

/-- Raising an error keeps an earlier one and otherwise records its code alone (R152). -/
theorem raiseError_cases (c : ErrorCode) (s : State) :
    (s.err = errNone ∧ raiseError c s = s.setErr c.code) ∨ (s.err ≠ errNone ∧ raiseError c s = s) := by
  unfold raiseError
  split <;> simp_all

/-- Raising an error writes ERR alone (R152). -/
theorem raiseError_eq_setErr (c : ErrorCode) (s : State) :
    raiseError c s = s.setErr (if s.err = errNone then c.code else s.err) := by
  obtain ⟨h, e⟩ | ⟨h, e⟩ := raiseError_cases c s <;> rw [e] <;> simp [h, State.setErr]

@[simp] theorem raiseError_poly (c : ErrorCode) (s : State) : (raiseError c s).poly = s.poly := by
  simp [raiseError_eq_setErr]
@[simp] theorem raiseError_iv (c : ErrorCode) (s : State) : (raiseError c s).iv = s.iv := by
  simp [raiseError_eq_setErr]
@[simp] theorem raiseError_xorout (c : ErrorCode) (s : State) : (raiseError c s).xorout = s.xorout := by
  simp [raiseError_eq_setErr]
@[simp] theorem raiseError_data (c : ErrorCode) (s : State) : (raiseError c s).data = s.data := by
  simp [raiseError_eq_setErr]
@[simp] theorem raiseError_crc (c : ErrorCode) (s : State) : (raiseError c s).crc = s.crc := by
  simp [raiseError_eq_setErr]
@[simp] theorem raiseError_result (c : ErrorCode) (s : State) : (raiseError c s).result = s.result := by
  simp [raiseError_eq_setErr]
@[simp] theorem raiseError_resultRev (c : ErrorCode) (s : State) :
    (raiseError c s).resultRev = s.resultRev := by simp [raiseError_eq_setErr]
@[simp] theorem raiseError_expected (c : ErrorCode) (s : State) :
    (raiseError c s).expected = s.expected := by simp [raiseError_eq_setErr]
@[simp] theorem raiseError_tv (c : ErrorCode) (s : State) : (raiseError c s).tv = s.tv := by
  simp [raiseError_eq_setErr]
@[simp] theorem raiseError_m (c : ErrorCode) (s : State) : (raiseError c s).m = s.m := by
  simp [raiseError_eq_setErr]
@[simp] theorem raiseError_mf (c : ErrorCode) (s : State) : (raiseError c s).mf = s.mf := by
  simp [raiseError_eq_setErr]
@[simp] theorem raiseError_mr (c : ErrorCode) (s : State) : (raiseError c s).mr = s.mr := by
  simp [raiseError_eq_setErr]
@[simp] theorem raiseError_err (c : ErrorCode) (s : State) :
    (raiseError c s).err = if s.err = errNone then c.code else s.err := by simp [raiseError_eq_setErr]
@[simp] theorem raiseError_table (c : ErrorCode) (s : State) : (raiseError c s).table = s.table := by
  simp [raiseError_eq_setErr]
@[simp] theorem raiseError_pending (c : ErrorCode) (s : State) : (raiseError c s).pending = s.pending := by
  simp [raiseError_eq_setErr]
@[simp] theorem raiseError_lastResp (c : ErrorCode) (s : State) :
    (raiseError c s).lastResp = s.lastResp := by simp [raiseError_eq_setErr]

/-! ### The table -/

/-- A built table holds TableEntry at every index (R100). -/
@[simp] theorem tableAt_buildTable (p : Word) (i : Byte) : tableAt (buildTable p) i = tableEntry p i := by
  unfold buildTable tableAt
  simp

/-- Two tables with equal entries are equal. -/
theorem table_ext {t u : Vector Word 256} (h : ∀ i : Byte, tableAt t i = tableAt u i) : t = u := by
  apply Vector.ext
  intro k hk
  have := h (BitVec.ofNat 8 k)
  simpa [tableAt, Nat.mod_eq_of_lt hk] using this


/-! ### The running value -/

@[simp] theorem absorb_nil (t : Vector Word 256) (c : Word) : absorb t c [] = c := rfl

@[simp] theorem absorb_cons (t : Vector Word 256) (c : Word) (b : Byte) (bs : List Byte) :
    absorb t c (b :: bs) = absorb t (stepByte t c b) bs := rfl

/-- Absorbing two runs of bytes is absorbing one after the other (R113). -/
theorem absorb_append (t : Vector Word 256) (c : Word) (bs cs : List Byte) :
    absorb t c (bs ++ cs) = absorb t (absorb t c bs) cs := by simp [absorb, List.foldl_append]

/-- FEED's and FEEDW's absorption steps CRC with a valid table and records NO_TABLE without (R112, R114). -/
theorem feedBytes_cases (bs : List Byte) (s : State) :
    (s.tv = true ∧ feedBytes bs s = s.setCrc (absorb s.table s.crc bs))
      ∨ (s.tv = false ∧ feedBytes bs s = raiseError .noTable s) := by
  unfold feedBytes
  cases h : s.tv <;> simp

end Sys2Proof.Machine
end

