-- ==== Sys2Proof/Laws/Bus.lean ====
section
/-!
SUPPORT. What a command, a bus access and a step can do, each said once: the inversion lemmas of `exec`, `execute`,
`busWrite`, `serve` and `step`, and the address map by word number.
-/

namespace Sys2Proof.Machine

/-- What stands at the k-th word of the window (R53), by the word's number. -/
def regOfWord (k : Nat) : Reg :=
  match k with
  | 0 => .cmd
  | 1 => .status
  | 2 => .poly
  | 3 => .iv
  | 4 => .ctrl
  | 5 => .data
  | 6 => .crc
  | 7 => .result
  | 8 => .resultRev
  | 9 => .expected
  | k => if 256 ≤ k ∧ k < 512 then .table (BitVec.ofNat 8 (k - 256)) else .reserved

/-- The address map depends on the word number `a / 4` alone, as R53 lists it. -/
theorem regAt_eq_regOfWord : ∀ a : Offset, regAt a = regOfWord (a.toNat / 4) := by decide +kernel

/-- CMD is the word at offset 0 and no other. -/
theorem regAt_eq_cmd_iff : ∀ a : Offset, regAt a = .cmd ↔ a.toNat / 4 = 0 := by decide +kernel

/-- TABLE[i] is the word at offset 0x400 + 4*i. -/
theorem regOfWord_table (i : Byte) : regOfWord (256 + i.toNat) = .table i := by
  have h : ∀ i : Byte, regOfWord (256 + i.toNat) = .table i := by decide +kernel
  exact h i

/-- From word 10 on, the window holds TABLE at words 256 to 511 and reserved words elsewhere. -/
theorem regOfWord_of_ge {k : Nat} (h : 10 ≤ k) :
    regOfWord k = if 256 ≤ k ∧ k < 512 then .table (BitVec.ofNat 8 (k - 256)) else .reserved := by
  unfold regOfWord
  split <;> first | omega | rfl

/-- What every command does, by one equation a command: the meanings without their shared operations' names. -/
theorem exec_cases (i : Instr) (s : State) :
    (i = .nop ∧ exec i s = .next s)
      ∨ (i = .build ∧ exec i s = .next (clearComputation ((s.setTable (buildTable s.poly)).setTv true)))
      ∨ (i = .init ∧ exec i s = .next (s.setCrc s.iv))
      ∨ (∃ b, i = .feed b ∧ exec i s = .next (feedBytes [b] s))
      ∨ (∃ n, i = .feedw n ∧ feedwCountLegal n = true
          ∧ exec i s = .next (feedBytes (lowBytes s.data n.toNat) s))
      ∨ (∃ n, i = .feedw n ∧ feedwCountLegal n = false ∧ exec i s = .next (raiseError .illegal s))
      ∨ (i = .final ∧ exec i s = .next (((s.setResult (outputXor s.xorout s.crc)).setResultRev
          (bswap32 (outputXor s.xorout s.crc))).setMatch false false false))
      ∨ (i = .matchExpected ∧ exec i s = .next
          (s.setMatch (matchForward s || matchReversed s) (matchForward s) (matchReversed s)))
      ∨ (i = .clrerr ∧ exec i s = .next (clearError s)) := by
  cases i with
  | feedw n => cases h : feedwCountLegal n <;> simp [exec, execFeedw, h]
  | _ => simp [exec, execNop, execBuild, execInit, execFeed, execFinal, execMatch, execClrerr]

/-- Executing a word is its command's meaning, or records ILLEGAL (R82). -/
theorem execute_cases (w : Word) (s : State) :
    (∃ i, decode w = .ok i ∧ execute w s = exec i s)
      ∨ (∃ e, decode w = .error e ∧ execute w s = .next (raiseError .illegal s)) := by
  unfold execute
  cases h : decode w with
  | ok i => exact .inl ⟨i, rfl, rfl⟩
  | error e => exact .inr ⟨e, rfl, rfl⟩

/-- A bus write executes a command, or writes a register (R56). -/
theorem busWrite_cases (a : Offset) (v : Word) (s : State) :
    (regAt a = .cmd ∧ busWrite a v s = execute v s)
      ∨ (regAt a ≠ .cmd ∧ busWrite a v s = .next (writeReg (regAt a) v s)) := by
  unfold busWrite
  split <;> simp_all

/-- A write of a register that is not CMD (R56). -/
theorem busWrite_of_reg {a : Offset} {r : Reg} (h : regAt a = r) (hr : r ≠ .cmd) (v : Word) (s : State) :
    busWrite a v s = .next (writeReg r v s) := by
  unfold busWrite
  rw [if_neg (by rw [h]; exact hr), h]

/-- A CMD write of a word that decodes runs its command (R56, R82). -/
theorem busWrite_of_command {a : Offset} {v : Word} {i : Instr} (h : regAt a = .cmd) (hd : decode v = .ok i)
    (s : State) : busWrite a v s = exec i s := by
  unfold busWrite execute
  rw [if_pos h, hd]

/-- A step whose event is a write is that write, answered (R58). -/
theorem step_of_write {s : State} {a : Offset} {v : Word} {rest : List BusEvent}
    (h : s.pending = .write a v :: rest) :
    step s = busWrite a v ((s.setPending rest).setResp (some .writeDone)) := by
  unfold step
  rw [h]
  rfl

/-- What a step can do: nothing, one read, one write, one reset, or refuse a narrow access. -/
theorem step_cases (s : State) :
    (s.pending = [] ∧ step s = .next s)
      ∨ (∃ a rest, s.pending = .read a :: rest
          ∧ step s = .next ((s.setPending rest).setResp (some (.readData (busRead a s)))))
      ∨ (∃ a v rest, s.pending = .write a v :: rest
          ∧ step s = busWrite a v ((s.setPending rest).setResp (some .writeDone)))
      ∨ (∃ w h a rest, s.pending = .narrow w h a :: rest ∧ step s = .refused .narrowAccess)
      ∨ (∃ rest, s.pending = .reset :: rest ∧ step s = .next (applyReset (s.setPending rest)))
      ∨ (∃ w rest, s.pending = .resetDuringCommand w :: rest
          ∧ step s = .next ((applyReset (s.setPending rest)).setResp (some abortResponse))) := by
  unfold step
  cases hp : s.pending with
  | nil => exact .inl ⟨rfl, rfl⟩
  | cons e rest =>
    cases e with
    | read a => exact .inr (.inl ⟨a, rest, rfl, rfl⟩)
    | write a v => exact .inr (.inr (.inl ⟨a, v, rest, rfl, rfl⟩))
    | narrow w h a => exact .inr (.inr (.inr (.inl ⟨w, h, a, rest, rfl, rfl⟩)))
    | reset => exact .inr (.inr (.inr (.inr (.inl ⟨rest, rfl, rfl⟩))))
    | resetDuringCommand w => exact .inr (.inr (.inr (.inr (.inr ⟨w, rest, rfl, rfl⟩))))

/-- No steps leave the state. -/
@[simp] theorem run_zero (s : State) : run 0 s = .next s := rfl

/-- A run of any machine takes its first step. -/
theorem core_run_succ (M : Host.Core) {s t : M.State} (h : M.step s = .next t) (k : Nat) :
    M.run (k + 1) s = M.run k t := by
  rw [Host.Core.run, h]

/-- A run of any machine that ends in a state took its first step. -/
theorem core_run_succ_cases (M : Host.Core) {s t : M.State} {k : Nat} (h : M.run (k + 1) s = .next t) :
    ∃ u, M.step s = .next u ∧ M.run k u = .next t := by
  rw [Host.Core.run] at h
  cases hs : M.step s with
  | next u => rw [hs] at h; exact ⟨u, rfl, h⟩
  | fault r => rw [hs] at h; cases h
  | refused r => rw [hs] at h; cases h

/-- A run takes its first step and goes on from the state it gives. -/
theorem run_succ_of_next {s t : State} (h : step s = .next t) (k : Nat) : run (k + 1) s = run k t :=
  core_run_succ core h k

/-- A run that ends in a state took its first step, and the rest from the state it gave. -/
theorem run_succ_cases {s t : State} {k : Nat} (h : run (k + 1) s = .next t) :
    ∃ u, step s = .next u ∧ run k u = .next t :=
  core_run_succ_cases core h

end Sys2Proof.Machine
end

