-- ==== Sys2Proof/Laws/PerInstr.lean ====
section
/-!
SUPPORT. A statement about every command, one lemma a constructor: the fields of its encoded word are its opcode, zero
and its operand (spec/30_encoding.md R80, R83).
-/

namespace Sys2Proof.Laws

/-- The fields of a word put together from its fields (R80). -/
theorem fields_commandWord (op imm : Byte) :
    opField (commandWord op imm) = op ∧ rsvField (commandWord op imm) = 0#16
      ∧ immField (commandWord op imm) = imm := by
  refine ⟨?_, ?_, ?_⟩ <;> ext j hj
  · have h1 : 24 + j < 32 := by omega
    have h2 : imm.getLsbD (24 + j) = false := BitVec.getLsbD_of_ge _ _ (by omega)
    simp [opField, commandWord, BitVec.getLsbD_eq_getElem hj, h1, h2]
  · have h1 : 8 + j < 24 := by omega
    simp [rsvField, commandWord, h1]
  · have h1 : j < 24 := by omega
    have h2 : j < 32 := by omega
    simp [immField, commandWord, BitVec.getLsbD_eq_getElem hj, h1, h2]

namespace EncodeFields

/-- The fields of the command's encoded word. -/
def Statement (i : Instr) : Prop :=
  opField (encode i) = i.opcode ∧ rsvField (encode i) = 0#16 ∧ immField (encode i) = i.operand

theorem nop : Statement .nop := fields_commandWord _ _
theorem build : Statement .build := fields_commandWord _ _
theorem init : Statement .init := fields_commandWord _ _
theorem feed (b : Byte) : Statement (.feed b) := fields_commandWord _ _
theorem feedw (n : Byte) : Statement (.feedw n) := fields_commandWord _ _
theorem final : Statement .final := fields_commandWord _ _
theorem matchExpected : Statement .matchExpected := fields_commandWord _ _
theorem clrerr : Statement .clrerr := fields_commandWord _ _

end EncodeFields

end Sys2Proof.Laws
end

