-- ==== Sys2Proof/Machine/Timing.lean ====
section
/-!
DEFINITION. The latency class of a command (spec/70_reset_and_hazards.md R197). No rule of the machine depends on it:
a command is one step.
-/

namespace Sys2Proof.Machine

/-- The `clk` cycles a word holds the CMD write, by its class (R197): an illegal word is of the class `LAT_OTHER`. -/
def commandLatency (w : Word) : Nat :=
  match decode w with
  | .ok .build => Config.latBuildLessOne + 1
  | .ok (.feed _) => Config.latFeedLessOne 1 + 1
  | .ok (.feedw n) => Config.latFeedLessOne n.toNat + 1
  | .ok .nop => Config.latOtherLessOne + 1
  | .ok .init => Config.latOtherLessOne + 1
  | .ok .final => Config.latOtherLessOne + 1
  | .ok .matchExpected => Config.latOtherLessOne + 1
  | .ok .clrerr => Config.latOtherLessOne + 1
  | .error _ => Config.latOtherLessOne + 1

end Sys2Proof.Machine
end

