-- ==== Sys2Proof/Tests/Slice0.lean ====
section
/-!
SUPPORT. The model's own tests: the check of operands, the words of spec/30_encoding.md written out, one-step vectors
of spec/95_test_vectors.md (their ids stand in the docstrings), and for each statement with hypotheses a witness that
meets them.
-/

namespace Sys2Proof.Tests

open Sys2Proof.Machine

/-- The outcome is a next state with the property. -/
def gives (o : Host.Outcome State Fault Refusal) (p : State → Bool) : Bool :=
  match o with
  | .next t => p t
  | .fault _ => false
  | .refused _ => false

/-- The reset state with the table of `p` built and valid. -/
def built (p : Word) : State := ((State.reset.setPoly p).setTable (buildTable p)).setTv true

/-- The state with a write of `v` to the offset `a` as its next event. -/
def writing (a : Offset) (v : Word) (s : State) : State := s.setPending [.write a v]

/-! ### WellFormed: each check refuses an ill-formed term -/

theorem test_feedw_zero_is_ill_formed : (Instr.feedw 0#8).wellFormed = false := rfl
theorem test_feedw_five_is_ill_formed : (Instr.feedw 5#8).wellFormed = false := rfl
theorem test_feedw_four_is_well_formed : (Instr.feedw 4#8).wellFormed = true := rfl

/-! ### Decode: words written out from R80 and R83 -/

theorem test_decode_nop : decode 0b00000000000000000000000000000000#32 = .ok .nop := rfl
theorem test_decode_build : decode 0b00000001000000000000000000000000#32 = .ok .build := rfl
theorem test_decode_init : decode 0b00000010000000000000000000000000#32 = .ok .init := rfl
theorem test_decode_feed : decode 0b00000011000000000000000010110001#32 = .ok (.feed 0xB1#8) := rfl
theorem test_decode_feedw : decode 0b00000100000000000000000000000011#32 = .ok (.feedw 3#8) := rfl
theorem test_decode_final : decode 0b00000101000000000000000000000000#32 = .ok .final := rfl
theorem test_decode_match : decode 0b00000110000000000000000000000000#32 = .ok .matchExpected := rfl
theorem test_decode_clrerr : decode 0b00000111000000000000000000000000#32 = .ok .clrerr := rfl
/-- V-E-1, V-E-3, V-E-6, V-E-8, V-F-15, V-F-16: words that are no command, by the reason. -/
theorem test_decode_illegal :
    decode 0x08000000#32 = .error .unknownOpcode ∧ decode 0x01000100#32 = .error .reservedBits
      ∧ decode 0x07000001#32 = .error .badOperand ∧ decode 0x00000001#32 = .error .badOperand
      ∧ decode 0x04000000#32 = .error .badOperand ∧ decode 0x04000005#32 = .error .badOperand := by decide
theorem test_decodeTableWord_feed : decodeTableWord 32 0x03000031 = some (.feed 0x31#8) := rfl

/-! ### One step of each command -/

/-- V-E-7. -/
theorem test_nop : gives (step (writing 0x000 0x00000000 (built 0xEDB88320))) (fun t => statusWord t == 1#32) := rfl
/-- V-B-1 to V-B-6. -/
theorem test_build_entries : ∃ t, step (writing 0x000 0x01000000 State.reset) = .next t
    ∧ tableAt t.table 0 = 0#32 ∧ tableAt t.table 1 = 0x77073096#32 ∧ tableAt t.table 128 = 0xEDB88320#32
    ∧ tableAt t.table 255 = 0x2D02EF8D#32 :=
  ⟨_, rfl, (tableAt_buildTable 0xEDB88320#32 0).trans (by decide),
    (tableAt_buildTable 0xEDB88320#32 1).trans (by decide),
    (tableAt_buildTable 0xEDB88320#32 128).trans (by decide),
    (tableAt_buildTable 0xEDB88320#32 255).trans (by decide)⟩
/-- V-B-17, V-B-18. -/
theorem test_build_clears : gives (exec .build ((((State.reset.setCrc 0x340BC6D9).setResult 0xCBF43926).setMatch
    true true false).setErr 2)) (fun t => t.crc == 0#32 && t.result == 0#32 && statusWord t == 0x201#32) := rfl
/-- V-I-1. -/
theorem test_init : gives (step (writing 0x000 0x02000000 State.reset)) (fun t =>
    t.crc == 0xFFFFFFFF#32 && statusWord t == 0#32) := rfl
/-- V-F-1. -/
theorem test_feed : ∃ t, step (writing 0x000 0x03000031 ((built 0xEDB88320).setCrc 0xFFFFFFFF)) = .next t
    ∧ t.crc = 0x7C231048#32 := by
  refine ⟨_, rfl, ?_⟩
  change stepByte (buildTable 0xEDB88320#32) 0xFFFFFFFF#32 0x31#8 = _
  rw [stepByte, tableAt_buildTable]
  decide
/-- V-R-3. -/
theorem test_feed_no_table : gives (step (writing 0x000 0x03000031 State.reset)) (fun t =>
    t.crc == 0#32 && statusWord t == 0x200#32) := rfl
/-- V-F-5. -/
theorem test_feedw : ∃ t, step (writing 0x000 0x04000004 (((built 0xEDB88320).setCrc 0xFFFFFFFF).setData
    0x34333231)) = .next t ∧ t.crc = 0x641C1F5C#32 := by
  refine ⟨_, rfl, ?_⟩
  change absorb (buildTable 0xEDB88320#32) 0xFFFFFFFF#32 [0x31#8, 0x32#8, 0x33#8, 0x34#8] = _
  simp only [absorb_cons, absorb_nil, stepByte, tableAt_buildTable]
  decide +kernel
/-- V-F-16: the encoding is checked first. -/
theorem test_feedw_five : gives (step (writing 0x000 0x04000005 State.reset)) (fun t =>
    statusWord t == 0x100#32) := rfl
/-- V-X-1. -/
theorem test_final_complements : gives (exec .final (State.reset.setCrc 0x340BC6D9)) (fun t =>
    t.result == 0xCBF43926#32 && t.resultRev == 0x2639F4CB#32 && t.crc == 0x340BC6D9#32) := rfl
/-- V-X-2. -/
theorem test_final_plain : gives (exec .final ((State.reset.setCrc 0x340BC6D9).setXorout false)) (fun t =>
    t.result == 0x340BC6D9#32 && t.resultRev == 0xD9C60B34#32) := rfl
/-- V-M-2. -/
theorem test_match_reversed : gives (exec .matchExpected ((((built 0xEDB88320).setResult 0xCBF43926).setResultRev
    0x2639F4CB).setExpected 0x2639F4CB)) (fun t => statusWord t == 0x0B#32) := rfl
/-- V-M-5. -/
theorem test_match_reset : gives (exec .matchExpected State.reset) (fun t => statusWord t == 0x0E#32) := rfl
/-- V-E-4. -/
theorem test_clrerr : gives (exec .clrerr ((built 0xEDB88320).setErr 2)) (fun t => statusWord t == 1#32) := rfl
/-- V-E-5: a malformed CLRERR clears nothing. -/
theorem test_clrerr_malformed : gives (step (writing 0x000 0x07000001 (State.reset.setErr 2))) (fun t =>
    statusWord t == 0x200#32) := rfl

/-! ### The bus -/

/-- V-BUS-8 and V-B-3: TABLE[1] reads its entry and ignores a write. -/
theorem test_table_is_read_only : ∃ t, step (writing 0x404 0 (built 0xEDB88320)) = .next t
    ∧ busRead 0x404 t = 0x77073096#32 :=
  ⟨_, rfl, (tableAt_buildTable 0xEDB88320#32 1).trans (by decide)⟩
/-- V-BUS-9: a write of POLY, the same value too, clears TV. -/
theorem test_write_poly : gives (step (writing 0x008 0xEDB88320 (built 0xEDB88320))) (fun t =>
    busRead 0x404 t == 0#32 && statusWord t == 0#32) := rfl
/-- V-BUS-4. -/
theorem test_write_ctrl : gives (step (writing 0x010 0xFFFFFFFE State.reset)) (fun t =>
    busRead 0x010 t == 0#32) := rfl
/-- V-BUS-6. -/
theorem test_write_result_ignored : gives (step (writing 0x01C 0 (State.reset.setResult 0xCBF43926))) (fun t =>
    busRead 0x01C t == 0xCBF43926#32) := rfl
/-- V-R-1, as answered on the bus. -/
theorem test_read_poly_answers : gives (step (State.reset.setPending [.read 0x008])) (fun t =>
    t.lastResp == some (.readData 0xEDB88320#32)) := rfl
/-- V-L1-1, by the source's Compute alone. -/
theorem test_compute_check_value : compute 0xEDB88320
    [0x31, 0x32, 0x33, 0x34, 0x35, 0x36, 0x37, 0x38, 0x39] 0xFFFFFFFF true = 0xCBF43926#32 := by decide +kernel
/-- R197: each command takes a positive number of cycles. -/
theorem test_latency_positive : 0 < commandLatency 0x01000000#32 := by
  unfold commandLatency
  exact Nat.succ_pos _

/-! ### Witnesses: the hypotheses of each statement are met -/

theorem witness_DecodeEncodeRoundTrip :
    (Instr.feedw 1#8).wellFormed = true ∧ (Instr.feedw 4#8).wellFormed = true
      ∧ (Instr.feed 0xFF#8).wellFormed = true := by decide
theorem witness_EncodeOfDecodedWord :
    decode 0x04000001#32 = .ok (.feedw 1#8) ∧ decode 0x030000FF#32 = .ok (.feed 0xFF#8) := by decide
/-- One word for each clause of the list, at its boundary. -/
theorem witness_IllegalWordOnlyRecordsIllegal :
    decode 0x08000000#32 = .error .unknownOpcode ∧ decode 0xFF000000#32 = .error .unknownOpcode
      ∧ decode 0x00000100#32 = .error .reservedBits ∧ decode 0x00FFFF00#32 = .error .reservedBits
      ∧ decode 0x00000001#32 = .error .badOperand ∧ decode 0x070000FF#32 = .error .badOperand
      ∧ decode 0x04000000#32 = .error .badOperand ∧ decode 0x04000005#32 = .error .badOperand := by decide
theorem witness_AssemblerLinesAreEncodings :
    asmFeed 255 ≠ none ∧ asmFeed 256 = none ∧ asmFeedw 0 = none ∧ asmFeedw 1 ≠ none ∧ asmFeedw 4 ≠ none
      ∧ asmFeedw 5 = none ∧ regOffset (.table 255) = some 0x7FC#12 ∧ regOffset .expected = some 0x024#12 := by
  decide +kernel
theorem witness_CrcPseudoInstructionIsOneCompute :
    (∀ c ∈ ['1', '\x7f'], c.toNat ≤ 0x7F) ∧ (∃ c ∈ ['1', '\x80'], 0x7F < c.toNat) := by
  simp
theorem witness_StepRunsDecodedCommand :
    (writing 0x003 0x02000000 State.reset).pending = [.write 0x003#12 0x02000000#32]
      ∧ (0x003#12).toNat / 4 = 0 ∧ decode 0x02000000#32 = .ok .init := by decide
theorem witness_FetchWordRunsFirst : decode 0x03000031#32 = .ok (.feed 0x31#8) := by decide
theorem witness_StepRecordsIllegalWord :
    (writing 0x000 0xFFFFFFFF State.reset).pending = [.write 0x000#12 0xFFFFFFFF#32]
      ∧ (0x000#12).toNat / 4 = 0 ∧ decode 0xFFFFFFFF#32 = .error .reservedBits := by decide
theorem witness_OnlyNarrowAccessHasNoStep :
    (State.reset.setPending [.narrow true false 0x014]).pending = [.narrow true false 0x014#12]
      ∧ ¬ ∃ (w h : Bool) (a : Offset) (rest : List BusEvent), State.reset.pending = .narrow w h a :: rest :=
  ⟨rfl, by simp⟩
theorem witness_IdleBusKeepsState : State.reset.pending = [] := rfl
/-- For each command without an operand, a malformed word of its OP. -/
theorem witness_malformed_words :
    (0x00000001#32).toNat / 2 ^ 24 = 0 ∧ (0x01000100#32).toNat / 2 ^ 24 = 1
      ∧ (0x02000001#32).toNat / 2 ^ 24 = 2 ∧ (0x05800000#32).toNat / 2 ^ 24 = 5
      ∧ (0x060000FF#32).toNat / 2 ^ 24 = 6 ∧ (0x07000001#32).toNat / 2 ^ 24 = 7 := by decide
theorem witness_FeedTakesOneTableStep : (built 0xEDB88320).tv = true ∧ State.reset.tv = false := ⟨rfl, rfl⟩
theorem witness_FeedwStepsOverLowBytes :
    1 ≤ (1#8).toNat ∧ (4#8).toNat ≤ 4 ∧ (built 0).tv = true ∧ State.reset.tv = false
      ∧ (0#8).toNat = 0 ∧ 5 ≤ (5#8).toNat := by
  refine ⟨by decide, by decide, rfl, rfl, by decide, by decide⟩
theorem witness_FeedwEqualsFeeds : 1 ≤ (4#8).toNat ∧ (4#8).toNat ≤ 4 ∧ (built 0xEDB88320).tv = true :=
  ⟨by decide, by decide, rfl⟩
theorem witness_CommandLeavesOtherOffsets :
    exec .init State.reset = .next (State.reset.setCrc 0xFFFFFFFF) ∧ commandWrites .init (regAt 0x01C) = false :=
  ⟨rfl, by decide⟩
theorem witness_FailingCommandOnlyRecordsFirstError :
    decode 0x08000000#32 = .error .unknownOpcode ∧ State.reset.tv = false
      ∧ decode 0x03000000#32 = .ok (.feed 0#8) ∧ decode 0x04000004#32 = .ok (.feedw 4#8)
      ∧ execute 0x00000000#32 State.reset = .next State.reset := ⟨by decide, rfl, by decide, by decide, rfl⟩
/-- A step that changes TV, one that changes M, MF and MR, and one that changes ERR. -/
theorem witness_FlagsChangeOnlyByListedEvents :
    (∃ t, step (writing 0x000 0x01000000 State.reset) = .next t ∧ t.tv ≠ State.reset.tv)
      ∧ (∃ t, step (writing 0x000 0x06000000 State.reset) = .next t ∧ t.m ≠ State.reset.m)
      ∧ (∃ t, step (writing 0x000 0x03000000 State.reset) = .next t ∧ t.err ≠ State.reset.err) :=
  ⟨⟨_, rfl, by decide⟩, ⟨_, rfl, by decide⟩, ⟨_, rfl, by decide⟩⟩
/-- A step that changes CRC, one that changes RESULT, and one that changes TABLE; none is a reset. -/
theorem witness_EngineRegistersChangeOnlyByCommands :
    (∃ t, step (writing 0x000 0x02000000 State.reset) = .next t ∧ t.crc ≠ State.reset.crc)
      ∧ (∃ t, step (writing 0x000 0x05000000 State.reset) = .next t ∧ t.result ≠ State.reset.result)
      ∧ (∃ t, step (writing 0x000 0x01000000 State.reset) = .next t ∧ t.table ≠ State.reset.table)
      ∧ nextIsReset (writing 0x000 0x02000000 State.reset) = false := by
  refine ⟨⟨_, rfl, by decide⟩, ⟨_, rfl, by decide⟩, ⟨_, rfl, fun h => ?_⟩, rfl⟩
  have h1 : tableAt (buildTable 0xEDB88320#32) 1 = tableAt State.reset.table 1 := congrArg (tableAt · 1) h
  rw [tableAt_buildTable] at h1
  exact absurd h1 (by decide +kernel)
/-- A host write of each host register that changes it. -/
theorem witness_HostRegistersChangeOnlyByHostWrites :
    (∃ t, step (writing 0x008 1 State.reset) = .next t ∧ t.poly ≠ State.reset.poly)
      ∧ (∃ t, step (writing 0x00C 1 State.reset) = .next t ∧ t.iv ≠ State.reset.iv)
      ∧ (∃ t, step (writing 0x010 0 State.reset) = .next t ∧ t.xorout ≠ State.reset.xorout)
      ∧ (∃ t, step (writing 0x014 1 State.reset) = .next t ∧ t.data ≠ State.reset.data)
      ∧ (∃ t, step (writing 0x024 1 State.reset) = .next t ∧ t.expected ≠ State.reset.expected) :=
  ⟨⟨_, rfl, by decide⟩, ⟨_, rfl, by decide⟩, ⟨_, rfl, by decide⟩, ⟨_, rfl, by decide⟩, ⟨_, rfl, by decide⟩⟩
theorem witness_ParametersSampledByOneCommand :
    exec .nop State.reset = .next State.reset
      ∧ Instr.nop ≠ .init ∧ Instr.nop ≠ .final ∧ (∀ n, Instr.nop ≠ .feedw n) ∧ Instr.nop ≠ .matchExpected
      ∧ Instr.nop ≠ .build ∧ (0xFFC#12).toNat / 4 ≠ 0 :=
  ⟨rfl, by decide, by decide, fun _ => Instr.noConfusion, by decide, by decide, by decide⟩
/-- A read, and for each clause of the map an offset at its boundary. -/
theorem witness_ReadsFollowAddressMap :
    (State.reset.setPending [.read 0x7FF]).pending = [.read 0x7FF#12]
      ∧ (0x003#12).toNat / 4 = 0 ∧ (0x007#12).toNat / 4 = 1 ∧ (0x008#12).toNat / 4 = 2
      ∧ (0x00C#12).toNat / 4 = 3 ∧ (0x010#12).toNat / 4 = 4 ∧ (0x014#12).toNat / 4 = 5
      ∧ (0x018#12).toNat / 4 = 6 ∧ (0x01C#12).toNat / 4 = 7 ∧ (0x020#12).toNat / 4 = 8
      ∧ (0x027#12).toNat / 4 = 9 ∧ (0x028#12).toNat / 4 = 10 ∧ (0x3FF#12).toNat / 4 = 255
      ∧ (0x400#12).toNat / 4 = 256 + (0#8).toNat ∧ (0x7FF#12).toNat / 4 = 256 + (255#8).toNat
      ∧ (0x800#12).toNat / 4 = 512 ∧ (0xFFF#12).toNat / 4 = 1023 := by decide
theorem witness_WritesFollowAddressMap :
    (writing 0x024 5 State.reset).pending = [.write 0x024#12 5#32] ∧ (0x024#12).toNat / 4 = 9
      ∧ (0x028#12).toNat / 4 ∉ [0, 2, 3, 4, 5, 9] ∧ (0x004#12).toNat / 4 ∉ [0, 2, 3, 4, 5, 9]
      ∧ (0xFFF#12).toNat / 4 ∉ [0, 2, 3, 4, 5, 9] := by decide
theorem witness_WindowDecodesWordOffset : (0x404#12).toNat / 4 = (0x407#12).toNat / 4 := by decide
theorem witness_WrittenRegistersReadBack :
    (0x008#12).toNat / 4 = (0x00B#12).toNat / 4 ∧ (0x008#12).toNat / 4 ∈ [2, 3, 5, 9]
      ∧ (0x024#12).toNat / 4 ∈ [2, 3, 5, 9] ∧ (0x010#12).toNat / 4 = 4 := by decide
theorem witness_RegisterWritesAreIdempotent : (0x004#12).toNat / 4 ≠ 0 ∧ (built 0).tv = true :=
  ⟨by decide, rfl⟩
theorem witness_ResetEventRestoresResetValues :
    ((built 1).setPending [.reset]).pending = [.reset]
      ∧ ((built 1).setPending [.resetDuringCommand 0x01000000]).pending = [.resetDuringCommand 0x01000000#32] :=
  ⟨rfl, rfl⟩
/-- A state other than reset that meets the invariants, with a valid table and a command to run. -/
theorem witness_StepKeepsInvariants :
    Inv (writing 0x000 0x03000031 (built 0xEDB88320))
      ∧ ∃ t, step (writing 0x000 0x03000031 (built 0xEDB88320)) = .next t :=
  ⟨⟨by decide, fun _ i => tableAt_buildTable _ i, rfl, .inl rfl⟩, _, rfl⟩
theorem witness_InvariantsHoldBetweenCommands :
    ∃ t, run 1 (State.reset.setPending [.write 0x000 0x01000000]) = .next t ∧ t.tv = true := ⟨_, rfl, rfl⟩
theorem witness_BuildForgetsComputation :
    (State.reset.setCrc 1).poly = (State.reset.setCrc 2).poly
      ∧ (State.reset.setCrc 1).iv = (State.reset.setCrc 2).iv
      ∧ (State.reset.setCrc 1).xorout = (State.reset.setCrc 2).xorout
      ∧ (State.reset.setCrc 1).data = (State.reset.setCrc 2).data
      ∧ (State.reset.setCrc 1).expected = (State.reset.setCrc 2).expected
      ∧ (State.reset.setCrc 1).err = (State.reset.setCrc 2).err
      ∧ (State.reset.setCrc 1).pending = (State.reset.setCrc 2).pending
      ∧ (State.reset.setCrc 1).lastResp = (State.reset.setCrc 2).lastResp := by
  refine ⟨rfl, rfl, rfl, rfl, rfl, rfl, rfl, rfl⟩
theorem witness_StaleTableIsUnusable :
    (0x008#12).toNat / 4 = 2 ∧ 1 ≤ (1#8).toNat ∧ (4#8).toNat ≤ 4 ∧ (0x7FC#12).toNat / 4 = 256 + (255#8).toNat
      ∧ ∃ t, State.reset.tv = false ∧ step (writing 0x000 0x01000000 State.reset) = .next t ∧ t.tv = true :=
  ⟨by decide, by decide, by decide, by decide, _, rfl, rfl, rfl⟩
/-- Two states that differ in a stale TABLE. -/
theorem witness_StaleTableIsUnobservable :
    agreeButStaleTable State.reset (State.reset.setTable (Vector.replicate 256 0xFFFFFFFF#32))
      ∧ ∃ t, step State.reset = .next t := ⟨⟨rfl, fun h => by cases h⟩, _, rfl⟩

end Sys2Proof.Tests
end

