-- ==== Sys2Proof/Proofs/ByteReversal.lean ====
section
/-!
PROOFS. The bytes of a word and the byte reversal (spec/00_scope.md R10, R15): two words with the same bytes are equal,
and bswap32 is settled byte by byte.
-/

namespace Sys2Proof.Machine

@[simp] theorem getLsbD_wordByte (v : Word) (k j : Nat) :
    (wordByte v k).getLsbD j = (decide (j < 8) && v.getLsbD (8 * k + j)) := by
  simp [wordByte]

@[simp] theorem getElem_wordByte (v : Word) (k j : Nat) (hj : j < 8) :
    (wordByte v k)[j] = v.getLsbD (8 * k + j) := by
  simp [wordByte]

/-- A word is determined by its four bytes: bit i is bit i % 8 of byte i / 8. -/
theorem eq_of_wordByte_eq {v w : Word} (h : ∀ k, k < 4 → wordByte v k = wordByte w k) : v = w := by
  apply BitVec.eq_of_getLsbD_eq
  intro i hi
  have hbit : (wordByte v (i / 8)).getLsbD (i % 8) = (wordByte w (i / 8)).getLsbD (i % 8) := by
    rw [h (i / 8) (by omega)]
  have hlt : i % 8 < 8 := Nat.mod_lt i (by decide)
  simpa only [getLsbD_wordByte, hlt, decide_true, Bool.true_and, Nat.div_add_mod] using hbit

@[simp] theorem wordByte_or (v w : Word) (k : Nat) : wordByte (v ||| w) k = wordByte v k ||| wordByte w k := by
  simp [wordByte, BitVec.extractLsb'_or]

/-- A byte shifted to byte position m stands at byte m of the word, and every other byte is 0. -/
theorem wordByte_shiftLeft_byte (b : Byte) {k : Nat} (m : Nat) (hk : k < 4) :
    wordByte (b.setWidth 32 <<< (8 * m)) k = if k = m then b else 0#8 := by
  apply BitVec.eq_of_getElem_eq
  intro j hj
  have hin : 8 * k + j < 32 := by omega
  rcases lt_trichotomy k m with hlt | rfl | hgt
  · have hbelow : 8 * k + j < 8 * m := by omega
    simp [hbelow, hlt.ne]
  · simp [hin, BitVec.getLsbD_eq_getElem hj]
  · have habove : 8 ≤ 8 * k + j - 8 * m := by omega
    simp [hgt.ne', BitVec.getLsbD_of_ge b _ habove]

/-- The byte reversal moves byte k to byte 3-k (R10). -/
theorem wordByte_bswap32 (v : Word) {k : Nat} (hk : k < 4) : wordByte (bswap32 v) k = wordByte v (3 - k) := by
  have hpos0 : wordByte ((wordByte v 3).setWidth 32) k = if k = 0 then wordByte v 3 else 0#8 := by
    simpa using wordByte_shiftLeft_byte (wordByte v 3) 0 hk
  rw [bswap32, wordByte_or, wordByte_or, wordByte_or, wordByte_shiftLeft_byte _ 3 hk,
    wordByte_shiftLeft_byte _ 2 hk, wordByte_shiftLeft_byte _ 1 hk, hpos0]
  interval_cases k <;> simp

/-- Reversing twice sends byte k to byte 3-(3-k), which is byte k. -/
@[simp] theorem bswap32_bswap32 (v : Word) : bswap32 (bswap32 v) = v := by
  apply eq_of_wordByte_eq
  intro k hk
  calc wordByte (bswap32 (bswap32 v)) k
      = wordByte (bswap32 v) (3 - k) := wordByte_bswap32 _ hk
    _ = wordByte v (3 - (3 - k)) := wordByte_bswap32 v (by omega)
    _ = wordByte v k := by rw [Nat.sub_sub_self (by omega)]

/-- Settles O21: byte k of the reversal by `wordByte_bswap32`, the involution by `bswap32_bswap32`. -/
theorem byteReversalReversesBytes : Obligations.ByteReversalReversesBytes :=
  fun v => ⟨fun _ hk => wordByte_bswap32 v hk, bswap32_bswap32 v⟩

end Sys2Proof.Machine
end

section
/-!
PROOFS. The registers of the CTE over every event (spec/10_state.md): what a command makes of the state, what a step can
do, which events change each register, the invariants of R32 to R34, and what TABLE's contents reach while TV = 0.
-/

namespace Sys2Proof.Machine

/-! ### What a command makes of the state -/

/-- The state a command leaves. No command stops (`exec_eq_next`), so the other outcomes never matter. -/
def commandEffect (i : Instr) (s : State) : State :=
  match exec i s with
  | .next t => t
  | .fault _ => s
  | .refused _ => s

/-- Every command completes in every state (R198). -/
theorem exec_eq_next (i : Instr) (s : State) : exec i s = .next (commandEffect i s) := by
  cases i <;> rfl

theorem eq_commandEffect_of_exec {i : Instr} {s t : State} (h : exec i s = .next t) : t = commandEffect i s :=
  Host.Outcome.next.inj (h.symm.trans (exec_eq_next i s))

@[simp] theorem commandEffect_nop (s : State) : commandEffect .nop s = s := rfl

@[simp] theorem commandEffect_build (s : State) :
    commandEffect .build s = clearComputation ((s.setTable (buildTable s.poly)).setTv true) := rfl

@[simp] theorem commandEffect_init (s : State) : commandEffect .init s = s.setCrc s.iv := rfl

@[simp] theorem commandEffect_feed (b : Byte) (s : State) : commandEffect (.feed b) s = feedBytes [b] s := rfl

theorem commandEffect_feedw_of_legal {n : Byte} (hn : feedwCountLegal n = true) (s : State) :
    commandEffect (.feedw n) s = feedBytes (lowBytes s.data n.toNat) s :=
  if_pos hn

theorem commandEffect_feedw_of_illegal {n : Byte} (hn : feedwCountLegal n = false) (s : State) :
    commandEffect (.feedw n) s = raiseError .illegal s :=
  if_neg (by simp [hn])

@[simp] theorem commandEffect_final (s : State) :
    commandEffect .final s = ((s.setResult (outputXor s.xorout s.crc)).setResultRev
      (bswap32 (outputXor s.xorout s.crc))).setMatch false false false := rfl

@[simp] theorem commandEffect_matchExpected (s : State) :
    commandEffect .matchExpected s =
      s.setMatch (matchForward s || matchReversed s) (matchForward s) (matchReversed s) := rfl

@[simp] theorem commandEffect_clrerr (s : State) : commandEffect .clrerr s = clearError s := rfl

/-- Absorbing bytes writes CRC and ERR at most (R112, R114). -/
theorem feedBytes_frame (bs : List Byte) (s : State) :
    feedBytes bs s = (s.setCrc (feedBytes bs s).crc).setErr (feedBytes bs s).err := by
  obtain ⟨-, e⟩ | ⟨-, e⟩ := feedBytes_cases bs s <;> rw [e]
  · rfl
  · rw [raiseError_eq_setErr]; rfl

/-- FEED writes CRC and ERR at most (R20). -/
theorem commandEffect_feed_frame (b : Byte) (s : State) : commandEffect (.feed b) s =
    (s.setCrc (commandEffect (.feed b) s).crc).setErr (commandEffect (.feed b) s).err :=
  feedBytes_frame [b] s

/-- FEEDW writes CRC and ERR at most (R20), whatever its count. -/
theorem commandEffect_feedw_frame (n : Byte) (s : State) : commandEffect (.feedw n) s =
    (s.setCrc (commandEffect (.feedw n) s).crc).setErr (commandEffect (.feedw n) s).err := by
  cases hn : feedwCountLegal n with
  | true => rw [commandEffect_feedw_of_legal hn]; exact feedBytes_frame _ s
  | false => rw [commandEffect_feedw_of_illegal hn, raiseError_eq_setErr]; rfl

/-- No command writes a register that R20 gives to the host, or the bus's fields. -/
theorem commandEffect_host_frame (i : Instr) (s : State) : commandEffect i s =
    { commandEffect i s with poly := s.poly, iv := s.iv, xorout := s.xorout, data := s.data, expected := s.expected,
                             pending := s.pending, lastResp := s.lastResp } := by
  cases i with
  | feed b => rw [commandEffect_feed_frame]; rfl
  | feedw n => rw [commandEffect_feedw_frame]; rfl
  | _ => rfl

/-- Of the commands, BUILD alone writes TV and TABLE (R22, R31). -/
theorem commandEffect_table_frame {i : Instr} (hi : i ≠ .build) (s : State) :
    commandEffect i s = { commandEffect i s with tv := s.tv, table := s.table } := by
  cases i with
  | build => exact absurd rfl hi
  | feed b => rw [commandEffect_feed_frame]; rfl
  | feedw n => rw [commandEffect_feedw_frame]; rfl
  | _ => rfl

/-- Of the commands, FINAL and BUILD alone write RESULT and RESULT_REV (R28, R29). -/
theorem commandEffect_result_frame {i : Instr} (hfinal : i ≠ .final) (hbuild : i ≠ .build) (s : State) :
    commandEffect i s = { commandEffect i s with result := s.result, resultRev := s.resultRev } := by
  cases i with
  | build => exact absurd rfl hbuild
  | final => exact absurd rfl hfinal
  | feed b => rw [commandEffect_feed_frame]; rfl
  | feedw n => rw [commandEffect_feedw_frame]; rfl
  | _ => rfl

/-- Of the commands, MATCH, FINAL and BUILD alone write M, MF and MR (R22). -/
theorem commandEffect_match_frame {i : Instr} (hmatch : i ≠ .matchExpected) (hfinal : i ≠ .final)
    (hbuild : i ≠ .build) (s : State) :
    commandEffect i s = { commandEffect i s with m := s.m, mf := s.mf, mr := s.mr } := by
  cases i with
  | build => exact absurd rfl hbuild
  | final => exact absurd rfl hfinal
  | matchExpected => exact absurd rfl hmatch
  | feed b => rw [commandEffect_feed_frame]; rfl
  | feedw n => rw [commandEffect_feedw_frame]; rfl
  | _ => rfl

/-- A command that changes CRC is INIT, FEED, FEEDW or BUILD (R27). -/
theorem crc_writer {i : Instr} {s : State} (h : (commandEffect i s).crc ≠ s.crc) :
    i = .init ∨ (∃ b, i = .feed b) ∨ (∃ n, i = .feedw n) ∨ i = .build := by
  cases i with
  | init => exact .inl rfl
  | feed b => exact .inr (.inl ⟨b, rfl⟩)
  | feedw n => exact .inr (.inr (.inl ⟨n, rfl⟩))
  | build => exact .inr (.inr (.inr rfl))
  | _ => exact absurd rfl h

/-- Absorbing bytes with a valid table records no error. -/
theorem feedBytes_err_of_tv {s : State} (htv : s.tv = true) (bs : List Byte) : (feedBytes bs s).err = s.err := by
  simp [feedBytes, htv]

/-- A command that changes ERR is CLRERR, or a FEED or FEEDW without a table; FEEDW's illegal counts, which no word
decodes to, are left out. -/
theorem err_writer {i : Instr} {s : State} (hwf : i.wellFormed = true) (h : (commandEffect i s).err ≠ s.err) :
    (((∃ b, i = .feed b) ∨ ∃ n, i = .feedw n) ∧ s.tv = false) ∨ i = .clrerr := by
  cases i with
  | clrerr => exact .inr rfl
  | feed b => exact .inl ⟨.inl ⟨b, rfl⟩, Bool.eq_false_iff.mpr fun htv => h (feedBytes_err_of_tv htv _)⟩
  | feedw n =>
    rw [commandEffect_feedw_of_legal hwf] at h
    exact .inl ⟨.inr ⟨n, rfl⟩, Bool.eq_false_iff.mpr fun htv => h (feedBytes_err_of_tv htv _)⟩
  | _ => exact absurd rfl h

/-! ### What a register write leaves unchanged -/

/-- No host write reaches what the commands write, TV apart (R56). -/
theorem writeReg_engine_frame (r : Reg) (v : Word) (s : State) : writeReg r v s =
    { writeReg r v s with crc := s.crc, result := s.result, resultRev := s.resultRev, table := s.table, m := s.m,
                          mf := s.mf, mr := s.mr, err := s.err } := by
  cases r <;> rfl

/-- POLY and TV change with a write of POLY only (R23). -/
theorem writeReg_poly_frame {r : Reg} (hr : r ≠ .poly) (v : Word) (s : State) :
    writeReg r v s = { writeReg r v s with poly := s.poly, tv := s.tv } := by
  cases r with
  | poly => exact absurd rfl hr
  | _ => rfl

theorem writeReg_iv_of_ne {r : Reg} (hr : r ≠ .iv) (v : Word) (s : State) : (writeReg r v s).iv = s.iv := by
  cases r with
  | iv => exact absurd rfl hr
  | _ => rfl

theorem writeReg_xorout_of_ne {r : Reg} (hr : r ≠ .ctrl) (v : Word) (s : State) :
    (writeReg r v s).xorout = s.xorout := by
  cases r with
  | ctrl => exact absurd rfl hr
  | _ => rfl

theorem writeReg_data_of_ne {r : Reg} (hr : r ≠ .data) (v : Word) (s : State) : (writeReg r v s).data = s.data := by
  cases r with
  | data => exact absurd rfl hr
  | _ => rfl

theorem writeReg_expected_of_ne {r : Reg} (hr : r ≠ .expected) (v : Word) (s : State) :
    (writeReg r v s).expected = s.expected := by
  cases r with
  | expected => exact absurd rfl hr
  | _ => rfl

/-! ### What a step can do -/

theorem wellFormed_of_decodePlain {i j : Instr} {imm : Byte} (hi : i.wellFormed = true)
    (h : decodePlain i imm = .ok j) : j.wellFormed = true := by
  unfold decodePlain at h
  split at h
  next => cases h; exact hi
  next => cases h

theorem wellFormed_of_decodeFeedw {imm : Byte} {i : Instr} (h : decodeFeedw imm = .ok i) : i.wellFormed = true := by
  unfold decodeFeedw at h
  split at h
  next hcount => cases h; simpa [Instr.wellFormed] using hcount
  next => cases h

/-- A word decodes to well-formed commands only: FEEDW's count is checked (R82). -/
theorem wellFormed_of_decode {w : Word} {i : Instr} (h : decode w = .ok i) : i.wellFormed = true := by
  unfold decode decodeOp at h
  split_ifs at h
  · exact wellFormed_of_decodePlain (i := .nop) rfl h
  · exact wellFormed_of_decodePlain (i := .build) rfl h
  · exact wellFormed_of_decodePlain (i := .init) rfl h
  · cases h; rfl
  · exact wellFormed_of_decodeFeedw h
  · exact wellFormed_of_decodePlain (i := .final) rfl h
  · exact wellFormed_of_decodePlain (i := .matchExpected) rfl h
  · exact wellFormed_of_decodePlain (i := .clrerr) rfl h

/-- What one step makes of a state, by the event that is served: every case with what the claims say of the event
(`nextCommand` and the others), and the state in which the event has left the queue and the bus has answered it. -/
inductive StepEffect (s : State) : State → Prop where
  /-- Nothing is pending. -/
  | idle : StepEffect s s
  /-- A host read. -/
  | read (rest : List BusEvent) (v : Word) : StepEffect s ((s.setPending rest).setResp (some (.readData v)))
  /-- A CMD write of a word that is a command. -/
  | command (i : Instr) (rest : List BusEvent) (hnext : nextCommand s = some i) (hwf : i.wellFormed = true) :
      StepEffect s (commandEffect i ((s.setPending rest).setResp (some .writeDone)))
  /-- A CMD write of a word that is no command. -/
  | illegalWord (rest : List BusEvent) (hnext : nextIsIllegalWord s = true) :
      StepEffect s (raiseError .illegal ((s.setPending rest).setResp (some .writeDone)))
  /-- A host write of a register. -/
  | registerWrite (r : Reg) (v : Word) (rest : List BusEvent) (hnext : nextWrites r s = true) :
      StepEffect s (writeReg r v ((s.setPending rest).setResp (some .writeDone)))
  /-- A reset, alone or during a command. -/
  | reset (rest : List BusEvent) (resp : Option BusResponse) (hnext : nextIsReset s = true) :
      StepEffect s ((applyReset (s.setPending rest)).setResp resp)

/-- A step whose event is a write is a command, an illegal word or a register write. -/
theorem stepEffect_of_write {s t : State} {a : Offset} {v : Word} {rest : List BusEvent}
    (hp : s.pending = .write a v :: rest)
    (ht : busWrite a v ((s.setPending rest).setResp (some .writeDone)) = .next t) : StepEffect s t := by
  obtain ⟨ha, hw⟩ | ⟨-, hw⟩ := busWrite_cases a v ((s.setPending rest).setResp (some .writeDone))
  · obtain ⟨i, hd, he⟩ | ⟨e, hd, he⟩ := execute_cases v ((s.setPending rest).setResp (some .writeDone))
    · rw [hw, he] at ht
      rw [eq_commandEffect_of_exec ht]
      exact .command i rest (by simp [nextCommand, hp, ha, hd, Except.toOption]) (wellFormed_of_decode hd)
    · rw [hw, he] at ht
      cases ht
      exact .illegalWord rest (by simp [nextIsIllegalWord, hp, ha, hd, Except.toOption])
  · rw [hw] at ht
    cases ht
    exact .registerWrite (regAt a) v rest (by simp [nextWrites, hp])

/-- A step that gives a next state has one of the effects. -/
theorem stepEffect_of_step {s t : State} (h : step s = .next t) : StepEffect s t := by
  obtain ⟨-, e⟩ | ⟨a, rest, -, e⟩ | ⟨a, v, rest, hp, e⟩ | ⟨w, b, a, rest, -, e⟩ | ⟨rest, hp, e⟩ | ⟨w, rest, hp, e⟩ :=
    step_cases s
  · cases e.symm.trans h; exact .idle
  · cases e.symm.trans h; exact .read rest _
  · exact stepEffect_of_write hp (e.symm.trans h)
  · cases e.symm.trans h
  · cases e.symm.trans h; exact .reset rest none (by simp [nextIsReset, hp])
  · cases e.symm.trans h; exact .reset rest _ (by simp [nextIsReset, hp])

/-! ### Which events change a register -/

section Changes

variable {α : Type} {s t : State} (f : State → α)
  (hbus : ∀ (u : State) (rest : List BusEvent) (resp : Option BusResponse), f ((u.setPending rest).setResp resp) = f u)

include hbus

/-- What changes a register that the bus's own fields do not reach: a command, an illegal word, a write or a reset. -/
theorem changed_by_event (h : step s = .next t) (hne : f t ≠ f s) :
    ∃ u : State, u.tv = s.tv ∧
      ((∃ i, nextCommand s = some i ∧ i.wellFormed = true ∧ f (commandEffect i u) ≠ f u)
        ∨ (nextIsIllegalWord s = true ∧ f (raiseError .illegal u) ≠ f u)
        ∨ (∃ r v, nextWrites r s = true ∧ f (writeReg r v u) ≠ f u)
        ∨ nextIsReset s = true) := by
  cases stepEffect_of_step h with
  | idle => exact absurd rfl hne
  | read rest v => exact absurd (hbus ..) hne
  | command i rest hnext hwf =>
    exact ⟨(s.setPending rest).setResp (some .writeDone), rfl,
      .inl ⟨i, hnext, hwf, fun hkept => hne (hkept.trans (hbus ..))⟩⟩
  | illegalWord rest hnext =>
    exact ⟨(s.setPending rest).setResp (some .writeDone), rfl,
      .inr (.inl ⟨hnext, fun hkept => hne (hkept.trans (hbus ..))⟩)⟩
  | registerWrite r v rest hnext =>
    exact ⟨(s.setPending rest).setResp (some .writeDone), rfl,
      .inr (.inr (.inl ⟨r, v, hnext, fun hkept => hne (hkept.trans (hbus ..))⟩))⟩
  | reset rest resp hnext => exact ⟨s, rfl, .inr (.inr (.inr hnext))⟩

/-- A register that neither an illegal word nor a host write reaches changes by a command or a reset. -/
theorem changed_by_command (hill : ∀ u, f (raiseError .illegal u) = f u) (hwrite : ∀ r v u, f (writeReg r v u) = f u)
    (h : step s = .next t) (hne : f t ≠ f s) :
    (∃ i u, nextCommand s = some i ∧ f (commandEffect i u) ≠ f u) ∨ nextIsReset s = true := by
  obtain ⟨u, -, ⟨i, hi, -, hc⟩ | ⟨-, hc⟩ | ⟨r, v, -, hc⟩ | hreset⟩ := changed_by_event f hbus h hne
  · exact .inl ⟨i, u, hi, hc⟩
  · exact absurd (hill u) hc
  · exact absurd (hwrite r v u) hc
  · exact .inr hreset

/-- A register that no command and of the host's writes only that of `r₀` reaches changes by that write or a reset. -/
theorem changed_by_write {r₀ : Reg} (hcmd : ∀ i u, f (commandEffect i u) = f u)
    (hill : ∀ u, f (raiseError .illegal u) = f u) (hwrite : ∀ r v u, r ≠ r₀ → f (writeReg r v u) = f u)
    (h : step s = .next t) (hreset : nextIsReset s = false) (hne : f t ≠ f s) : nextWrites r₀ s = true := by
  obtain ⟨u, -, ⟨i, -, -, hc⟩ | ⟨-, hc⟩ | ⟨r, v, hr, hc⟩ | hr⟩ := changed_by_event f hbus h hne
  · exact absurd (hcmd i u) hc
  · exact absurd (hill u) hc
  · have hr₀ : r = r₀ := by_contra fun hother => hc (hwrite r v u hother)
    exact hr₀ ▸ hr
  · exact absurd hr (by simp [hreset])

end Changes

theorem nextLacksTable_of_feed {s : State} {i : Instr} (hnext : nextCommand s = some i)
    (hi : (∃ b, i = .feed b) ∨ ∃ n, i = .feedw n) (htv : s.tv = false) : nextLacksTable s = true := by
  obtain ⟨b, rfl⟩ | ⟨n, rfl⟩ := hi <;> simp [nextLacksTable, hnext, htv]

/-- TV changes by BUILD, a write of POLY and reset (R38). -/
theorem tv_changed_by {s t : State} (h : step s = .next t) (hne : t.tv ≠ s.tv) :
    nextCommand s = some .build ∨ nextWrites .poly s = true ∨ nextIsReset s = true := by
  obtain ⟨u, -, ⟨i, hi, -, hc⟩ | ⟨-, hc⟩ | ⟨r, v, hr, hc⟩ | hreset⟩ :=
    changed_by_event State.tv (fun _ _ _ => rfl) h hne
  · have hbuild : i = .build := by_contra fun hother => hc (by rw [commandEffect_table_frame hother u])
    exact .inl (hbuild ▸ hi)
  · exact absurd (raiseError_tv _ u) hc
  · have hpoly : r = .poly := by_contra fun hother => hc (by rw [writeReg_poly_frame hother v u])
    exact .inr (.inl (hpoly ▸ hr))
  · exact .inr (.inr hreset)

/-- M, MF and MR change by MATCH, FINAL, BUILD and reset (R38). -/
theorem match_changed_by {s t : State} (h : step s = .next t) (hne : t.m ≠ s.m ∨ t.mf ≠ s.mf ∨ t.mr ≠ s.mr) :
    nextCommand s = some .matchExpected ∨ nextCommand s = some .final ∨ nextCommand s = some .build
      ∨ nextIsReset s = true := by
  have hflags : (t.m, t.mf, t.mr) ≠ (s.m, s.mf, s.mr) := by
    simpa only [ne_eq, Prod.mk.injEq, not_and_or] using hne
  obtain ⟨i, u, hi, hc⟩ | hreset := changed_by_command (fun s => (s.m, s.mf, s.mr)) (fun _ _ _ => rfl)
    (fun u => by simp) (fun r v u => by rw [writeReg_engine_frame]) h hflags
  · by_contra hother
    simp only [hi, Option.some.injEq, not_or] at hother
    obtain ⟨hmatch, hfinal, hbuild, -⟩ := hother
    exact hc (by rw [commandEffect_match_frame hmatch hfinal hbuild u])
  · exact .inr (.inr (.inr hreset))

/-- ERR changes by a failing command, CLRERR and reset (R38, R134). -/
theorem err_changed_by {s t : State} (h : step s = .next t) (hne : t.err ≠ s.err) :
    nextIsIllegalWord s = true ∨ nextLacksTable s = true ∨ nextCommand s = some .clrerr
      ∨ nextIsReset s = true := by
  obtain ⟨u, htv, ⟨i, hi, hwf, hc⟩ | ⟨hill, -⟩ | ⟨r, v, -, hc⟩ | hreset⟩ :=
    changed_by_event State.err (fun _ _ _ => rfl) h hne
  · obtain ⟨hfeed, hu⟩ | rfl := err_writer hwf hc
    · exact .inr (.inl (nextLacksTable_of_feed hi hfeed (htv ▸ hu)))
    · exact .inr (.inr (.inl hi))
  · exact .inl hill
  · exact absurd (by rw [writeReg_engine_frame r v u]) hc
  · exact .inr (.inr (.inr hreset))

/-- Settles O26, flag by flag. -/
theorem flagsChangeOnlyByListedEvents : Obligations.FlagsChangeOnlyByListedEvents :=
  fun _ _ h => ⟨tv_changed_by h, match_changed_by h, err_changed_by h⟩

/-- CRC changes by INIT, FEED, FEEDW, BUILD and reset (R27). -/
theorem crc_changed_by {s t : State} (h : step s = .next t) (hne : t.crc ≠ s.crc) :
    (nextCommand s = some .init ∨ (∃ b, nextCommand s = some (.feed b)) ∨ (∃ n, nextCommand s = some (.feedw n))
      ∨ nextCommand s = some .build) ∨ nextIsReset s = true := by
  obtain ⟨i, u, hi, hc⟩ | hreset := changed_by_command State.crc (fun _ _ _ => rfl) (raiseError_crc _)
    (fun r v u => by rw [writeReg_engine_frame r v u]) h hne
  · left
    simpa only [hi, Option.some.injEq] using crc_writer hc
  · exact .inr hreset

/-- RESULT and RESULT_REV change by FINAL, BUILD and reset (R28, R29). -/
theorem result_changed_by {s t : State} (h : step s = .next t)
    (hne : t.result ≠ s.result ∨ t.resultRev ≠ s.resultRev) :
    (nextCommand s = some .final ∨ nextCommand s = some .build) ∨ nextIsReset s = true := by
  have hpair : (t.result, t.resultRev) ≠ (s.result, s.resultRev) := by
    simpa only [ne_eq, Prod.mk.injEq, not_and_or] using hne
  obtain ⟨i, u, hi, hc⟩ | hreset := changed_by_command (fun s => (s.result, s.resultRev)) (fun _ _ _ => rfl)
    (fun u => by simp) (fun r v u => by rw [writeReg_engine_frame]) h hpair
  · left
    by_contra hother
    simp only [hi, Option.some.injEq, not_or] at hother
    obtain ⟨hfinal, hbuild⟩ := hother
    exact hc (by rw [commandEffect_result_frame hfinal hbuild u])
  · exact .inr hreset

/-- TABLE changes by BUILD and reset (R31). -/
theorem table_changed_by {s t : State} (h : step s = .next t) (hne : t.table ≠ s.table) :
    nextCommand s = some .build ∨ nextIsReset s = true := by
  obtain ⟨i, u, hi, hc⟩ | hreset := changed_by_command State.table (fun _ _ _ => rfl) (raiseError_table _)
    (fun r v u => by rw [writeReg_engine_frame r v u]) h hne
  · have hbuild : i = .build := by_contra fun hother => hc (by rw [commandEffect_table_frame hother u])
    exact .inl (hbuild ▸ hi)
  · exact .inr hreset

/-- Settles O27, register by register, the reset being ruled out. -/
theorem engineRegistersChangeOnlyByCommands : Obligations.EngineRegistersChangeOnlyByCommands := by
  intro s t h hreset
  have hno : ¬ nextIsReset s = true := by simp [hreset]
  exact ⟨fun hc => (crc_changed_by h hc).resolve_right hno, fun hc => (result_changed_by h hc).resolve_right hno,
    fun hc => (table_changed_by h hc).resolve_right hno⟩

/-- Settles O28: for each register, no command and no illegal word reaches it, and of the writes its own alone. -/
theorem hostRegistersChangeOnlyByHostWrites : Obligations.HostRegistersChangeOnlyByHostWrites := by
  intro s t h hreset
  refine ⟨?poly, ?iv, ?xorout, ?data, ?expected⟩
  case poly =>
    exact changed_by_write State.poly (fun _ _ _ => rfl) (fun i u => by rw [commandEffect_host_frame i u])
      (raiseError_poly _) (fun r v u hr => by rw [writeReg_poly_frame hr v u]) h hreset
  case iv =>
    exact changed_by_write State.iv (fun _ _ _ => rfl) (fun i u => by rw [commandEffect_host_frame i u])
      (raiseError_iv _) (fun r v u hr => writeReg_iv_of_ne hr v u) h hreset
  case xorout =>
    exact changed_by_write State.xorout (fun _ _ _ => rfl)
      (fun i u => by rw [commandEffect_host_frame i u])
      (raiseError_xorout _) (fun r v u hr => writeReg_xorout_of_ne hr v u) h hreset
  case data =>
    exact changed_by_write State.data (fun _ _ _ => rfl) (fun i u => by rw [commandEffect_host_frame i u])
      (raiseError_data _) (fun r v u hr => writeReg_data_of_ne hr v u) h hreset
  case expected =>
    exact changed_by_write State.expected (fun _ _ _ => rfl)
      (fun i u => by rw [commandEffect_host_frame i u])
      (raiseError_expected _) (fun r v u hr => writeReg_expected_of_ne hr v u) h hreset

/-! ### The invariants -/

theorem bswap32_zero : bswap32 0x00000000#32 = 0x00000000#32 := by decide

/-- The bus's own fields are no part of the invariants. -/
theorem Inv.served {s : State} (h : Inv s) (rest : List BusEvent) (resp : Option BusResponse) :
    Inv ((s.setPending rest).setResp resp) :=
  ⟨h.resultPair, h.tableOfPoly, h.matchIsEither, h.errDefined⟩

/-- CRC is no part of the invariants. -/
theorem Inv.setCrc {s : State} (h : Inv s) (c : Word) : Inv (s.setCrc c) :=
  ⟨h.resultPair, h.tableOfPoly, h.matchIsEither, h.errDefined⟩

/-- An error raised records a defined code (R150). -/
theorem Inv.raiseError {s : State} (h : Inv s) (c : ErrorCode) : Inv (raiseError c s) := by
  obtain ⟨-, e⟩ | ⟨-, e⟩ := raiseError_cases c s <;> rw [e]
  · exact ⟨h.resultPair, h.tableOfPoly, h.matchIsEither, by cases c <;> simp⟩
  · exact h

theorem Inv.feedBytes {s : State} (h : Inv s) (bs : List Byte) : Inv (feedBytes bs s) := by
  obtain ⟨-, e⟩ | ⟨-, e⟩ := feedBytes_cases bs s <;> rw [e]
  · exact h.setCrc _
  · exact h.raiseError _

/-- Every command keeps the invariants. -/
theorem Inv.command {s : State} (h : Inv s) (i : Instr) : Inv (commandEffect i s) := by
  cases i with
  | nop => exact h
  | build => exact ⟨bswap32_zero.symm, fun _ k => tableAt_buildTable s.poly k, rfl, h.errDefined⟩
  | init => exact h.setCrc _
  | feed b => exact h.feedBytes _
  | feedw n =>
    cases hn : feedwCountLegal n with
    | true => rw [commandEffect_feedw_of_legal hn]; exact h.feedBytes _
    | false => rw [commandEffect_feedw_of_illegal hn]; exact h.raiseError _
  | final => exact ⟨rfl, h.tableOfPoly, rfl, h.errDefined⟩
  | matchExpected => exact ⟨h.resultPair, h.tableOfPoly, rfl, h.errDefined⟩
  | clrerr => exact ⟨h.resultPair, h.tableOfPoly, h.matchIsEither, .inl rfl⟩

/-- Every register write keeps the invariants: a new POLY makes the table invalid (R23). -/
theorem Inv.writeReg {s : State} (h : Inv s) (r : Reg) (v : Word) : Inv (writeReg r v s) := by
  cases r with
  | poly => exact ⟨h.resultPair, fun htv => absurd htv Bool.false_ne_true, h.matchIsEither, h.errDefined⟩
  | _ => exact ⟨h.resultPair, h.tableOfPoly, h.matchIsEither, h.errDefined⟩

theorem inv_reset : Inv State.reset :=
  ⟨bswap32_zero.symm, fun htv => absurd htv Bool.false_ne_true, rfl, .inl rfl⟩

theorem Inv.step {s t : State} (hinv : Inv s) (h : step s = .next t) : Inv t := by
  cases stepEffect_of_step h with
  | idle => exact hinv
  | read rest v => exact hinv.served rest _
  | command i rest => exact (hinv.served rest _).command i
  | illegalWord rest => exact (hinv.served rest _).raiseError _
  | registerWrite r v rest => exact (hinv.served rest _).writeReg r v
  | reset rest resp => exact inv_reset.served rest resp

/-- The invariants hold along every run, by induction on the number of steps. -/
theorem Inv.run {s t : State} {k : Nat} (hinv : Inv s) (h : run k s = .next t) : Inv t := by
  induction k generalizing s with
  | zero => cases h; exact hinv
  | succ k ih =>
    obtain ⟨u, hstep, hrest⟩ := run_succ_cases h
    exact ih (hinv.step hstep) hrest

/-- Settles O38, by the values of R180. -/
theorem resetMeetsInvariants : Obligations.ResetMeetsInvariants := inv_reset

/-- Settles O39, by the event the step serves. -/
theorem stepKeepsInvariants : Obligations.StepKeepsInvariants := fun _ _ hinv h => hinv.step h

/-- Settles O40: the run starts from the reset state, with events pending that the invariants do not read. -/
theorem invariantsHoldBetweenCommands : Obligations.InvariantsHoldBetweenCommands := by
  intro events k t h
  have hinv : Inv t := (inv_reset.served events none).run h
  exact ⟨hinv.resultPair, hinv.tableOfPoly, hinv.matchIsEither⟩

/-! ### What the host reads -/

theorem readReg_setCrc {r : Reg} (hr : r ≠ .crc) (s : State) (c : Word) : readReg r (s.setCrc c) = readReg r s := by
  cases r with
  | crc => exact absurd rfl hr
  | _ => rfl

theorem readReg_setErr {r : Reg} (hr : r ≠ .status) (s : State) (e : BitVec 3) :
    readReg r (s.setErr e) = readReg r s := by
  cases r with
  | status => exact absurd rfl hr
  | _ => rfl

theorem readReg_setMatch {r : Reg} (hr : r ≠ .status) (s : State) (m mf mr : Bool) :
    readReg r (s.setMatch m mf mr) = readReg r s := by
  cases r with
  | status => exact absurd rfl hr
  | _ => rfl

theorem readReg_setResult {r : Reg} (hr : r ≠ .result) (s : State) (v : Word) :
    readReg r (s.setResult v) = readReg r s := by
  cases r with
  | result => exact absurd rfl hr
  | _ => rfl

theorem readReg_setResultRev {r : Reg} (hr : r ≠ .resultRev) (s : State) (v : Word) :
    readReg r (s.setResultRev v) = readReg r s := by
  cases r with
  | resultRev => exact absurd rfl hr
  | _ => rfl

/-- A register that R20 does not list as written by a command reads after it as before. -/
theorem readReg_commandEffect {i : Instr} {r : Reg} (hw : commandWrites i r = false) (s : State) :
    readReg r (commandEffect i s) = readReg r s := by
  cases i with
  | nop => rfl
  | build =>
    cases r with
    | status | crc | result | resultRev | table => cases hw
    | _ => rfl
  | init => exact readReg_setCrc (by simpa [commandWrites] using hw) s _
  | feed b =>
    obtain ⟨hcrc, hstatus⟩ : r ≠ .crc ∧ r ≠ .status := by simpa [commandWrites] using hw
    rw [commandEffect_feed_frame, readReg_setErr hstatus, readReg_setCrc hcrc]
  | feedw n =>
    obtain ⟨hcrc, hstatus⟩ : r ≠ .crc ∧ r ≠ .status := by simpa [commandWrites] using hw
    rw [commandEffect_feedw_frame, readReg_setErr hstatus, readReg_setCrc hcrc]
  | final =>
    obtain ⟨⟨hresult, hrev⟩, hstatus⟩ : (r ≠ .result ∧ r ≠ .resultRev) ∧ r ≠ .status := by
      simpa [commandWrites] using hw
    rw [commandEffect_final, readReg_setMatch hstatus, readReg_setResultRev hrev, readReg_setResult hresult]
  | matchExpected => exact readReg_setMatch (by simpa [commandWrites] using hw) s ..
  | clrerr => exact readReg_setErr (by simpa [commandWrites] using hw) s _

/-- Settles O24: what is read at an offset is the register that stands there. -/
theorem commandLeavesOtherOffsets : Obligations.CommandLeavesOtherOffsets := by
  intro i s t a h hw
  rw [eq_commandEffect_of_exec h]
  exact readReg_commandEffect hw s

theorem getLsbD_boolWord (b : Bool) (k : Nat) : (boolWord b).getLsbD k = (decide (k = 0) && b) := by
  cases k <;> simp [boolWord]

/-- A flag shifted to bit j of a word stands there alone. -/
theorem getLsbD_boolWord_shiftLeft (b : Bool) {j : Nat} (hj : j < 32) (k : Nat) :
    (boolWord b <<< j).getLsbD k = (decide (k = j) && b) := by
  rw [BitVec.getLsbD_shiftLeft, getLsbD_boolWord]
  grind

/-- ERR shifted to bit 8 of a word stands in bits 10:8 (R22). -/
theorem getLsbD_err_shiftLeft (e : BitVec 3) (k : Nat) :
    ((e.setWidth 32) <<< 8).getLsbD k = (decide (8 ≤ k ∧ k ≤ 10) && e.getLsbD (k - 8)) := by
  by_cases hin : 8 ≤ k ∧ k ≤ 10
  · have hk : k < 32 ∧ ¬ k < 8 ∧ k - 8 < 32 := by omega
    simp [hin, hk]
  · have hout : k < 8 ∨ 3 ≤ k - 8 := by omega
    obtain hlow | hhigh := hout
    · simp [hlow, hin]
    · simp [BitVec.getLsbD_of_ge e _ hhigh, hin]

/-- Settles O31: each bit of STATUS is the or of the fields' bits, of which one at most stands there. -/
theorem statusWordLayout : Obligations.StatusWordLayout := by
  intro s k
  have hbit : (statusWord s).getLsbD k = (decide (k = 0) && s.tv || decide (k = 1) && s.m || decide (k = 2) && s.mf
      || decide (k = 3) && s.mr || decide (8 ≤ k ∧ k ≤ 10) && s.err.getLsbD (k - 8)) := by
    simp only [statusWord, BitVec.getLsbD_or, getLsbD_boolWord, getLsbD_boolWord_shiftLeft _ (by omega : 1 < 32),
      getLsbD_boolWord_shiftLeft _ (by omega : 2 < 32), getLsbD_boolWord_shiftLeft _ (by omega : 3 < 32),
      getLsbD_err_shiftLeft]
  rw [hbit]
  split_ifs with h0 h1 h2 h3 herr
  · simp [h0]
  · simp [h1]
  · simp [h2]
  · simp [h3]
  · simp [h0, h1, h2, h3, herr]
  · simp [h0, h1, h2, h3, herr]

/-- CTRL reads back bit 0 of what was written (R25). -/
theorem boolWord_getLsbD_zero (v : Word) : boolWord (v.getLsbD 0) = v &&& 0x00000001#32 := by
  apply BitVec.eq_of_getLsbD_eq
  intro k _
  rw [getLsbD_boolWord, BitVec.getLsbD_and]
  cases k <;> simp

/-- What a read answers after a write of the same word, which is not CMD, is what the register then reads as. -/
theorem busRead_after_busWrite {a b : Offset} {r : Reg} (ha : regAt a = r) (hb : regAt b = r) (hr : r ≠ .cmd)
    (v : Word) (s : State) : ∃ t, busWrite a v s = .next t ∧ busRead b t = readReg r (writeReg r v s) :=
  ⟨writeReg r v s, busWrite_of_reg ha hr v s, by rw [busRead, hb]⟩

/-- Settles O34: both offsets name the register of their word. -/
theorem writtenRegistersReadBack : Obligations.WrittenRegistersReadBack := by
  intro a b v s hab
  have hregs : ∀ k, a.toNat / 4 = k → regAt a = regOfWord k ∧ regAt b = regOfWord k := fun k hk =>
    ⟨hk ▸ regAt_eq_regOfWord a, hk ▸ hab ▸ regAt_eq_regOfWord b⟩
  constructor
  · intro hk
    simp only [List.mem_cons, List.not_mem_nil, or_false] at hk
    obtain hk | hk | hk | hk := hk <;> obtain ⟨ha, hb⟩ := hregs _ hk
    all_goals exact busRead_after_busWrite ha hb (by decide) v s
  · intro hk
    obtain ⟨ha, hb⟩ := hregs 4 hk
    rw [← boolWord_getLsbD_zero]
    exact busRead_after_busWrite ha hb (by decide) v s

/-! ### A stale TABLE -/

/-- The second state is the first, or the first with another TABLE while TV = 0. -/
theorem agreeButStaleTable_iff {s u : State} :
    agreeButStaleTable s u ↔ u = s ∨ (s.tv = false ∧ ∃ T, u = s.setTable T) := by
  constructor
  · rintro ⟨hrest, htable⟩
    cases htv : s.tv with
    | true => exact .inl (by rw [← hrest, ← htable htv]; rfl)
    | false => exact .inr ⟨rfl, u.table, by rw [← hrest]; rfl⟩
  · rintro (rfl | ⟨htv, T, rfl⟩)
    · exact ⟨rfl, fun _ => rfl⟩
    · exact ⟨rfl, fun h => absurd h (by simp [htv])⟩

theorem agreeButStaleTable_refl (s : State) : agreeButStaleTable s s := agreeButStaleTable_iff.mpr (.inl rfl)

theorem agreeButStaleTable_setTable {s : State} (htv : s.tv = false) (T : Vector Word 256) :
    agreeButStaleTable s (s.setTable T) := agreeButStaleTable_iff.mpr (.inr ⟨htv, T, rfl⟩)

theorem agreeButStaleTable_lastResp {s u : State} (h : agreeButStaleTable s u) : u.lastResp = s.lastResp := by
  obtain rfl | ⟨-, T, rfl⟩ := agreeButStaleTable_iff.mp h <;> rfl

theorem readReg_setTable {s : State} (htv : s.tv = false) (T : Vector Word 256) (r : Reg) :
    readReg r (s.setTable T) = readReg r s := by
  cases r with
  | table i => simp [readReg, htv]
  | _ => rfl

/-- A stale TABLE is read nowhere (R31). -/
theorem agreeButStaleTable_busRead {s u : State} (h : agreeButStaleTable s u) (a : Offset) :
    busRead a u = busRead a s := by
  obtain rfl | ⟨htv, T, rfl⟩ := agreeButStaleTable_iff.mp h
  · rfl
  · exact readReg_setTable htv T (regAt a)

theorem raiseError_setTable (c : ErrorCode) (s : State) (T : Vector Word 256) :
    raiseError c (s.setTable T) = (raiseError c s).setTable T := by
  simp only [raiseError_eq_setErr]
  rfl

/-- While TV = 0 the absorption of bytes looks at no entry of TABLE (R112, R114). -/
theorem feedBytes_setTable {s : State} (htv : s.tv = false) (bs : List Byte) (T : Vector Word 256) :
    feedBytes bs (s.setTable T) = (feedBytes bs s).setTable T := by
  simp [feedBytes, htv, raiseError_setTable]

/-- A command but BUILD does not look at a stale TABLE, and leaves it stale. -/
theorem commandEffect_setTable {i : Instr} (hi : i ≠ .build) {s : State} (htv : s.tv = false) (T : Vector Word 256) :
    commandEffect i (s.setTable T) = (commandEffect i s).setTable T := by
  cases i with
  | build => exact absurd rfl hi
  | feed b => exact feedBytes_setTable htv [b] T
  | feedw n =>
    cases hn : feedwCountLegal n with
    | true =>
      rw [commandEffect_feedw_of_legal hn, commandEffect_feedw_of_legal hn]
      exact feedBytes_setTable htv _ T
    | false =>
      rw [commandEffect_feedw_of_illegal hn, commandEffect_feedw_of_illegal hn]
      exact raiseError_setTable _ s T
  | _ => rfl

/-- Every command takes two states that differ in a stale TABLE to two such states; BUILD takes them to one. -/
theorem commandEffect_agree {s : State} (htv : s.tv = false) (T : Vector Word 256) (i : Instr) :
    agreeButStaleTable (commandEffect i s) (commandEffect i (s.setTable T)) := by
  by_cases hi : i = .build
  · subst hi
    exact agreeButStaleTable_refl _
  · rw [commandEffect_setTable hi htv]
    have hstale : (commandEffect i s).tv = s.tv := by rw [commandEffect_table_frame hi s]
    exact agreeButStaleTable_setTable (hstale.trans htv) T

/-- A register write does not look at TABLE, and sets TV in no state. -/
theorem writeReg_agree {s : State} (htv : s.tv = false) (T : Vector Word 256) (r : Reg) (v : Word) :
    agreeButStaleTable (writeReg r v s) (writeReg r v (s.setTable T)) := by
  cases r with
  | poly => exact agreeButStaleTable_setTable (s := writePoly v s) rfl T
  | _ => exact agreeButStaleTable_setTable (by exact htv) T

/-- A bus write takes two states that differ in a stale TABLE to two such states. -/
theorem busWrite_agree {s t : State} (htv : s.tv = false) (T : Vector Word 256) {a : Offset} {v : Word}
    (h : busWrite a v s = .next t) : ∃ t', busWrite a v (s.setTable T) = .next t' ∧ agreeButStaleTable t t' := by
  unfold busWrite execute at h ⊢
  split at h
  next ha =>
    rw [if_pos ha]
    cases hd : decode v with
    | ok i =>
      rw [hd] at h
      rw [eq_commandEffect_of_exec h]
      exact ⟨_, exec_eq_next i _, commandEffect_agree htv T i⟩
    | error e =>
      rw [hd] at h
      cases h
      refine ⟨_, rfl, ?_⟩
      rw [raiseError_setTable]
      exact agreeButStaleTable_setTable (by rw [raiseError_tv, htv]) T
  next ha =>
    cases h
    rw [if_neg ha]
    exact ⟨_, rfl, writeReg_agree htv T (regAt a) v⟩

/-- One event takes two states that differ in a stale TABLE to two such states. -/
theorem serve_agree {s t : State} (htv : s.tv = false) (T : Vector Word 256) {e : BusEvent}
    (h : serve e s = .next t) : ∃ t', serve e (s.setTable T) = .next t' ∧ agreeButStaleTable t t' := by
  cases e with
  | read a =>
    cases h
    refine ⟨_, rfl, ?_⟩
    rw [show busRead a (s.setTable T) = busRead a s from readReg_setTable htv T (regAt a)]
    exact agreeButStaleTable_setTable (by exact htv) T
  | write a v => exact busWrite_agree (s := s.setResp (some .writeDone)) htv T h
  | narrow w b a => cases h
  | reset => cases h; exact ⟨_, rfl, agreeButStaleTable_refl _⟩
  | resetDuringCommand w => cases h; exact ⟨_, rfl, agreeButStaleTable_refl _⟩

/-- A step takes two states that differ in a stale TABLE to two such states. -/
theorem step_agree {s u t : State} (hagree : agreeButStaleTable s u) (h : step s = .next t) :
    ∃ t', step u = .next t' ∧ agreeButStaleTable t t' := by
  obtain rfl | ⟨htv, T, rfl⟩ := agreeButStaleTable_iff.mp hagree
  · exact ⟨t, h, agreeButStaleTable_refl t⟩
  · unfold step at h ⊢
    rw [State.setTable_pending]
    cases hp : s.pending with
    | nil => rw [hp] at h; cases h; exact ⟨_, rfl, hagree⟩
    | cons e rest => rw [hp] at h; exact serve_agree (s := s.setPending rest) htv T h

/-- Settles O46: the next states agree but for a stale TABLE, which neither the bus answer nor a read shows. -/
theorem staleTableIsUnobservable : Obligations.StaleTableIsUnobservable := by
  intro s u s' hagree h
  obtain ⟨u', hstep, hagree'⟩ := step_agree hagree h
  exact ⟨u', hstep, hagree', agreeButStaleTable_lastResp hagree', agreeButStaleTable_busRead hagree'⟩

/-! ### A word placed as the next event -/

@[simp] theorem tableWord_toNat (w : Word) : tableWord 32 w.toNat = w := by
  rw [tableWord, Nat.mod_eq_of_lt w.isLt, BitVec.ofNat_toNat, BitVec.setWidth_eq]

/-- Settles O10: the placed word is the step's event, and the events pending before are what is left of the queue. -/
theorem fetchWordRunsFirst : Obligations.FetchWordRunsFirst := by
  intro s w i hd
  constructor
  · simp [decodeTableWord, hd, Except.toOption]
  · have hcmd : regAt 0x000#12 = .cmd := by decide
    have hpending : (s.withFetchWord 32 w.toNat).pending = .write 0x000#12 w :: s.pending := by
      simp [State.withFetchWord]
    rw [step_of_write hpending, busWrite_of_command hcmd hd]
    rfl

end Sys2Proof.Machine
end

section
/-!
PROOFS. The register window as the host sees it (spec/20_memory.md): which steps complete, what a read answers and a
write does at each word, which address bits are decoded, and writes repeated.
-/

namespace Sys2Proof.Machine

/-! ### One step by its event -/

theorem step_of_idle {s : State} (h : s.pending = []) : step s = .next s := by
  unfold step
  rw [h]

/-- A step whose event is a read records the answer and changes no register (R55, R58). -/
theorem step_of_read {s : State} {a : Offset} {rest : List BusEvent} (h : s.pending = .read a :: rest) :
    step s = .next ((s.setPending rest).setResp (some (.readData (busRead a s)))) := by
  unfold step
  rw [h]
  rfl

theorem step_of_narrow {s : State} {w b : Bool} {a : Offset} {rest : List BusEvent}
    (h : s.pending = .narrow w b a :: rest) : step s = .refused .narrowAccess := by
  unfold step
  rw [h]
  rfl

/-- Every write completes (R151): a command or an error recorded at CMD, a register write elsewhere. -/
theorem busWrite_completes (a : Offset) (v : Word) (s : State) : ∃ t, busWrite a v s = .next t := by
  obtain ⟨-, hw⟩ | ⟨-, hw⟩ := busWrite_cases a v s
  · obtain ⟨i, -, he⟩ | ⟨e, -, he⟩ := execute_cases v s
    · exact ⟨_, hw.trans (he.trans (exec_eq_next i s))⟩
    · exact ⟨_, hw.trans he⟩
  · exact ⟨_, hw⟩

/-- Settles O13, by the empty queue. -/
theorem idleBusKeepsState : Obligations.IdleBusKeepsState := fun _ h => step_of_idle h

/-- Settles O9: the event is the write of a command to CMD. -/
theorem stepRunsDecodedCommand : Obligations.StepRunsDecodedCommand := by
  intro s a w rest i hp ha hd
  rw [step_of_write hp, busWrite_of_command ((regAt_eq_cmd_iff a).mpr ha) hd]
  rfl

/-- Settles O12, by the event the step serves; a write completes by `busWrite_completes`. -/
theorem onlyNarrowAccessHasNoStep : Obligations.OnlyNarrowAccessHasNoStep := by
  intro s
  constructor
  · rintro ⟨w, b, a, rest, hp⟩
    exact step_of_narrow hp
  · intro hword
    obtain ⟨-, e⟩ | ⟨a, rest, -, e⟩ | ⟨a, v, rest, -, e⟩ | ⟨w, b, a, rest, hp, -⟩ | ⟨rest, -, e⟩ | ⟨w, rest, -, e⟩ :=
      step_cases s
    · exact ⟨_, e⟩
    · exact ⟨_, e⟩
    · rw [e]; exact busWrite_completes ..
    · exact absurd ⟨w, b, a, rest, hp⟩ hword
    · exact ⟨_, e⟩
    · exact ⟨_, e⟩

/-! ### The address map by word number -/

/-- From word 10 to TABLE the window is reserved (R53, R54). -/
theorem regOfWord_below_table {k : Nat} (hlow : 10 ≤ k) (hhigh : k < 256) : regOfWord k = .reserved := by
  rw [regOfWord_of_ge hlow, if_neg (by omega)]

/-- Above TABLE the window is reserved (R53, R54). -/
theorem regOfWord_above_table {k : Nat} (h : 512 ≤ k) : regOfWord k = .reserved := by
  rw [regOfWord_of_ge (by omega), if_neg (by omega)]

theorem busRead_of_word {a : Offset} {k : Nat} (hk : a.toNat / 4 = k) (s : State) :
    busRead a s = readReg (regOfWord k) s := by
  rw [busRead, regAt_eq_regOfWord, hk]

/-- A write at a word other than CMD's writes the register that stands there. -/
theorem busWrite_of_word {a : Offset} {k : Nat} (hk : a.toNat / 4 = k) (hcmd : k ≠ 0) (v : Word) (s : State) :
    busWrite a v s = .next (writeReg (regOfWord k) v s) := by
  have hreg : regAt a = regOfWord k := hk ▸ regAt_eq_regOfWord a
  refine busWrite_of_reg hreg (fun hr => hcmd ?_) v s
  rw [← hk]
  exact (regAt_eq_cmd_iff a).mp (hreg.trans hr)

theorem busWrite_of_cmd {a : Offset} (h : a.toNat / 4 = 0) (v : Word) (s : State) :
    busWrite a v s = execute v s :=
  if_pos ((regAt_eq_cmd_iff a).mpr h)

theorem boolWord_eq_ite (b : Bool) : boolWord b = if b then 0x00000001#32 else 0x00000000#32 := by
  cases b <;> rfl

/-- Settles O30: the answer is the value of the register that stands at the word (`busRead_of_word`). -/
theorem readsFollowAddressMap : Obligations.ReadsFollowAddressMap := by
  intro s a rest hp
  refine ⟨busRead a s, step_of_read hp, ?cmd, ?status, ?poly, ?iv, ?ctrl, ?data, ?crc, ?result, ?resultRev, ?expected,
    ?below, ?table, ?above⟩
  case ctrl => exact fun hk => (busRead_of_word hk s).trans (boolWord_eq_ite s.xorout)
  case below =>
    intro hlow hhigh
    rw [busRead_of_word rfl, regOfWord_below_table hlow hhigh]
    rfl
  case table =>
    intro i hk
    rw [busRead_of_word hk, regOfWord_table, readReg, cond_eq_ite]
  case above =>
    intro h
    rw [busRead_of_word rfl, regOfWord_above_table h]
    rfl
  all_goals exact fun hk => busRead_of_word hk s

/-- STATUS, CRC, RESULT, RESULT_REV, TABLE and the reserved words ignore a write (R54, R56). -/
theorem writeReg_of_ignored_word {k : Nat} (hk : k ∉ [0, 2, 3, 4, 5, 9]) (v : Word) (s : State) :
    writeReg (regOfWord k) v s = s := by
  have hword : k = 1 ∨ k = 6 ∨ k = 7 ∨ k = 8 ∨ 10 ≤ k := by
    simp only [List.mem_cons, List.not_mem_nil, or_false] at hk
    omega
  obtain rfl | rfl | rfl | rfl | hge := hword
  · rfl
  · rfl
  · rfl
  · rfl
  · rw [regOfWord_of_ge hge]
    split <;> rfl

/-- Settles O32: the step is a bus write of the answered state, at the register that stands at the word. -/
theorem writesFollowAddressMap : Obligations.WritesFollowAddressMap := by
  intro s a v rest hp
  refine ⟨_, rfl, ?_⟩
  rw [step_of_write hp]
  refine ⟨fun hk => busWrite_of_cmd hk v _, ?poly, ?iv, ?ctrl, ?data, ?expected, ?ignored⟩
  case ignored =>
    intro hk
    have hcmd : a.toNat / 4 ≠ 0 := fun h0 => hk (by simp [h0])
    rw [busWrite_of_word rfl hcmd, writeReg_of_ignored_word hk]
    rfl
  all_goals exact fun hk => busWrite_of_word hk (by decide) v _

/-! ### Which address bits are decoded -/

/-- Two offsets of one word name one register (R52). -/
theorem regAt_congr {a b : Offset} (h : a.toNat / 4 = b.toNat / 4) : regAt a = regAt b := by
  rw [regAt_eq_regOfWord, regAt_eq_regOfWord, h]

theorem windowOffset_hostAddress (a : Offset) : windowOffset (hostAddress a) = some a := by
  have ha : a.toNat < 4096 := a.isLt
  rw [windowOffset, hostAddress, if_pos (by omega), Nat.add_sub_cancel_left, BitVec.ofNat_toNat, BitVec.setWidth_eq]

theorem windowOffset_eq_none_iff (n : Nat) :
    windowOffset n = none ↔ n < Config.cteBase ∨ Config.cteBase + 4096 ≤ n := by
  rw [windowOffset, ite_eq_right_iff]
  simp only [reduceCtorEq, imp_false]
  omega

/-- Settles O33: reads and writes go by `regAt`, and the window's bounds are those of `windowOffset`. -/
theorem windowDecodesWordOffset : Obligations.WindowDecodesWordOffset := by
  refine ⟨fun a b v s hab => ?_, Nat.mul_mod_right 4096 _, windowOffset_hostAddress, windowOffset_eq_none_iff⟩
  rw [busRead, busRead, busWrite, busWrite, regAt_congr hab]
  exact ⟨rfl, rfl⟩

/-! ### Writes repeated -/

/-- What a register write stores depends on the written value alone, so a second write stores it again (R60). -/
theorem writeReg_writeReg (r : Reg) (v : Word) (s : State) : writeReg r v (writeReg r v s) = writeReg r v s := by
  cases r <;> rfl

/-- FEED with a valid table steps CRC and writes nothing else (R112). -/
theorem exec_feed_of_tv {s : State} (htv : s.tv = true) (b : Byte) :
    exec (.feed b) s = .next (s.setCrc (stepByte s.table s.crc b)) := by
  rw [exec_eq_next, commandEffect_feed, feedBytes, if_pos htv]
  rfl

/-- Settles O35: a register write repeated by `writeReg_writeReg`; the first FEED keeps TV and TABLE for the second. -/
theorem registerWritesAreIdempotent : Obligations.RegisterWritesAreIdempotent := by
  constructor
  · intro a v s ha
    refine ⟨writeReg (regOfWord (a.toNat / 4)) v s, busWrite_of_word rfl ha v s, ?_⟩
    rw [busWrite_of_word rfl ha, writeReg_writeReg]
  · intro b s htv
    exact ⟨_, _, exec_feed_of_tv htv b, exec_feed_of_tv (by exact htv) b, rfl⟩

end Sys2Proof.Machine
end

section
/-!
PROOFS. The command word (spec/30_encoding.md): the values of its fields, which words decode to which command and which
to none, what executing each kind of word does, and the lines of host programs (R87, R88).
-/

namespace Sys2Proof.Machine

/-! ### The fields of a word -/

theorem opField_toNat (w : Word) : (opField w).toNat = w.toNat / 2 ^ 24 := by
  have hw : w.toNat < 2 ^ 32 := w.isLt
  rw [opField, BitVec.extractLsb'_toNat, Nat.shiftRight_eq_div_pow]
  omega

theorem rsvField_toNat (w : Word) : (rsvField w).toNat = w.toNat / 2 ^ 8 % 2 ^ 16 := by
  rw [rsvField, BitVec.extractLsb'_toNat, Nat.shiftRight_eq_div_pow]

theorem immField_toNat (w : Word) : (immField w).toNat = w.toNat % 2 ^ 8 := by
  rw [immField, BitVec.extractLsb'_toNat, Nat.shiftRight_zero]

/-- OP and IMM8 do not overlap, so the word is their weighted sum. -/
theorem commandWord_toNat (op imm : Byte) : (commandWord op imm).toNat = op.toNat * 2 ^ 24 + imm.toNat := by
  have hop : op.toNat < 2 ^ 8 := op.isLt
  have himm : imm.toNat < 2 ^ 24 := by omega
  rw [commandWord, BitVec.toNat_or, BitVec.toNat_shiftLeft, BitVec.toNat_setWidth, BitVec.toNat_setWidth,
    Nat.mod_eq_of_lt (by omega), Nat.mod_eq_of_lt (by omega), Nat.shiftLeft_eq, Nat.mod_eq_of_lt (by omega),
    Nat.mul_comm, ← Nat.two_pow_add_eq_or_of_lt himm]

/-- A word with RSV = 0 is put together from its other two fields (R80). -/
theorem commandWord_fields {w : Word} (h : rsvField w = 0#16) : commandWord (opField w) (immField w) = w := by
  have hrsv : w.toNat / 2 ^ 8 % 2 ^ 16 = 0 := by rw [← rsvField_toNat, h]; rfl
  apply BitVec.eq_of_toNat_eq
  rw [commandWord_toNat, opField_toNat, immField_toNat]
  omega

/-! ### Which words are commands -/

theorem decodePlain_eq_ok_iff {i j : Instr} {imm : Byte} : decodePlain i imm = .ok j ↔ imm = 0x00#8 ∧ i = j := by
  unfold decodePlain
  split <;> simp_all

theorem decodeFeedw_eq_ok_iff {imm : Byte} {i : Instr} :
    decodeFeedw imm = .ok i ↔ (1 ≤ imm.toNat ∧ imm.toNat ≤ 4) ∧ .feedw imm = i := by
  unfold decodeFeedw
  split <;> simp_all

theorem wellFormed_feedw_iff (n : Byte) : (Instr.feedw n).wellFormed = true ↔ 1 ≤ n.toNat ∧ n.toNat ≤ 4 := by
  simp [Instr.wellFormed]

/-- The opcode map gives back a command from its opcode and a legal operand (R83). -/
theorem decodeOp_opcode_operand {i : Instr} (h : i.wellFormed = true) : decodeOp i.opcode i.operand = .ok i := by
  cases i with
  | feedw n => exact decodeFeedw_eq_ok_iff.mpr ⟨(wellFormed_feedw_iff n).mp h, rfl⟩
  | _ => rfl

theorem fields_of_decodePlain {i j : Instr} {imm : Byte} (hj : j.operand = 0x00#8) (h : decodePlain j imm = .ok i) :
    j.opcode = i.opcode ∧ imm = i.operand := by
  obtain ⟨himm, rfl⟩ := decodePlain_eq_ok_iff.mp h
  exact ⟨rfl, himm.trans hj.symm⟩

/-- The opcode map decodes to a command from that command's opcode and operand only (R83). -/
theorem fields_of_decodeOp {op imm : Byte} {i : Instr} (h : decodeOp op imm = .ok i) :
    op = i.opcode ∧ imm = i.operand := by
  unfold decodeOp at h
  split_ifs at h with h0 h1 h2 h3 h4 h5 h6 h7
  · exact h0 ▸ fields_of_decodePlain (j := .nop) rfl h
  · exact h1 ▸ fields_of_decodePlain (j := .build) rfl h
  · exact h2 ▸ fields_of_decodePlain (j := .init) rfl h
  · cases h; exact ⟨h3, rfl⟩
  · obtain ⟨-, rfl⟩ := decodeFeedw_eq_ok_iff.mp h; exact ⟨h4, rfl⟩
  · exact h5 ▸ fields_of_decodePlain (j := .final) rfl h
  · exact h6 ▸ fields_of_decodePlain (j := .matchExpected) rfl h
  · exact h7 ▸ fields_of_decodePlain (j := .clrerr) rfl h

theorem decode_commandWord (op imm : Byte) : decode (commandWord op imm) = decodeOp op imm := by
  obtain ⟨hop, hrsv, himm⟩ := Laws.fields_commandWord op imm
  rw [decode, if_pos hrsv, hop, himm]

/-- Decoding the encoding of a command with a legal operand gives the command back. -/
theorem decode_encode {i : Instr} (h : i.wellFormed = true) : decode (encode i) = .ok i :=
  (decode_commandWord _ _).trans (decodeOp_opcode_operand h)

/-- A word that decodes has RSV = 0 and its command's opcode and operand, so it is the command's encoding. -/
theorem encode_of_decode {w : Word} {i : Instr} (h : decode w = .ok i) : encode i = w := by
  unfold decode at h
  split at h
  next hrsv =>
    obtain ⟨hop, himm⟩ := fields_of_decodeOp h
    rw [encode, ← hop, ← himm, commandWord_fields hrsv]
  next => cases h

/-- The words that are commands are the encodings of the well-formed commands, each of its own. -/
theorem decode_eq_ok_iff {w : Word} {i : Instr} : decode w = .ok i ↔ encode i = w ∧ i.wellFormed = true := by
  constructor
  · exact fun h => ⟨encode_of_decode h, wellFormed_of_decode h⟩
  · rintro ⟨rfl, hwf⟩
    exact decode_encode hwf

/-- Settles O1: the encoding's fields are the opcode and the operand, from which the opcode map gives the command. -/
theorem decodeEncodeRoundTrip : Obligations.DecodeEncodeRoundTrip := fun _ h => decode_encode h

/-- Settles O2, by the fields of a word that decodes. -/
theorem encodeOfDecodedWord : Obligations.EncodeOfDecodedWord := fun _ _ h => decode_eq_ok_iff.mp h

/-! ### The rows of the opcode map -/

/-- The row of a command without a free operand: the mask keeps every bit, and the match value is the encoding (R83). -/
theorem decode_eq_ok_iff_of_fixed {i : Instr} (hwf : i.wellFormed = true) (w : Word) :
    decode w = .ok i ↔ w &&& 0xFFFFFFFF#32 = encode i := by
  have hmask : w &&& 0xFFFFFFFF#32 = w := BitVec.and_allOnes
  rw [decode_eq_ok_iff, hmask, eq_comm]
  exact and_iff_left hwf

/-- The mask of FEED's and FEEDW's rows clears IMM8 and keeps the rest. -/
theorem and_opMask_toNat (w : Word) : (w &&& 0xFFFFFF00#32).toNat = w.toNat / 2 ^ 8 * 2 ^ 8 := by
  have hw : w.toNat < 2 ^ 32 := w.isLt
  have hmask : w &&& 0xFFFFFF00#32 = w >>> 8 <<< 8 := by
    rw [BitVec.shiftLeft_ushiftRight]
    rfl
  rw [hmask, BitVec.toNat_shiftLeft, BitVec.toNat_ushiftRight, Nat.shiftLeft_eq, Nat.shiftRight_eq_div_pow]
  omega

/-- A word is a command word of given fields when the mask finds the opcode and IMM8 is the operand. -/
theorem commandWord_eq_iff (op imm : Byte) (w : Word) :
    commandWord op imm = w ↔ w &&& 0xFFFFFF00#32 = commandWord op 0x00#8 ∧ imm = w.setWidth 8 := by
  have himm : imm.toNat < 2 ^ 8 := imm.isLt
  have hzero : (0x00#8).toNat = 0 := rfl
  rw [← BitVec.toNat_inj, ← BitVec.toNat_inj, ← BitVec.toNat_inj, commandWord_toNat, commandWord_toNat,
    and_opMask_toNat, BitVec.toNat_setWidth, hzero]
  omega

theorem decode_eq_feed_iff (w : Word) (b : Byte) :
    decode w = .ok (.feed b) ↔ w &&& 0xFFFFFF00#32 = 0x03000000#32 ∧ b = w.setWidth 8 :=
  decode_eq_ok_iff.trans ((and_iff_left rfl).trans (commandWord_eq_iff 0x03#8 b w))

theorem decode_eq_feedw_iff (w : Word) (n : Byte) : decode w = .ok (.feedw n) ↔
    w &&& 0xFFFFFF00#32 = 0x04000000#32 ∧ n = w.setWidth 8 ∧ 1 ≤ n.toNat ∧ n.toNat ≤ 4 := by
  have hrow : encode (.feedw n) = w ↔ w &&& 0xFFFFFF00#32 = 0x04000000#32 ∧ n = w.setWidth 8 :=
    commandWord_eq_iff 0x04#8 n w
  rw [decode_eq_ok_iff, wellFormed_feedw_iff, hrow, and_assoc]

/-- FEEDW has four words, one for each legal count (R83). -/
theorem decodes_to_feedw_iff (w : Word) : (∃ n, decode w = .ok (.feedw n)) ↔
    w = 0x04000001#32 ∨ w = 0x04000002#32 ∨ w = 0x04000003#32 ∨ w = 0x04000004#32 := by
  constructor
  · rintro ⟨n, h⟩
    obtain ⟨rfl, hwf⟩ := decode_eq_ok_iff.mp h
    obtain ⟨hlow, hhigh⟩ := (wellFormed_feedw_iff n).mp hwf
    have hcount : n = 1#8 ∨ n = 2#8 ∨ n = 3#8 ∨ n = 4#8 := by bv_omega
    obtain rfl | rfl | rfl | rfl := hcount <;> decide
  · rintro (rfl | rfl | rfl | rfl)
    · exact ⟨1#8, decode_encode (i := .feedw 1#8) rfl⟩
    · exact ⟨2#8, decode_encode (i := .feedw 2#8) rfl⟩
    · exact ⟨3#8, decode_encode (i := .feedw 3#8) rfl⟩
    · exact ⟨4#8, decode_encode (i := .feedw 4#8) rfl⟩

/-- Settles O3, row by row. -/
theorem opcodeMapSelectsCommands : Obligations.OpcodeMapSelectsCommands := fun w =>
  ⟨decode_eq_ok_iff_of_fixed (i := .nop) rfl w, decode_eq_ok_iff_of_fixed (i := .build) rfl w,
    decode_eq_ok_iff_of_fixed (i := .init) rfl w, decode_eq_feed_iff w, decode_eq_feedw_iff w, decodes_to_feedw_iff w,
    decode_eq_ok_iff_of_fixed (i := .final) rfl w, decode_eq_ok_iff_of_fixed (i := .matchExpected) rfl w,
    decode_eq_ok_iff_of_fixed (i := .clrerr) rfl w⟩

/-- Settles O5, by computing the decoder on each word. -/
theorem writtenWordsDecode : Obligations.WrittenWordsDecode := by
  unfold Obligations.WrittenWordsDecode
  decide

/-! ### Which words are no command -/

theorem decodePlain_fails_iff {i : Instr} {imm : Byte} :
    (∃ e, decodePlain i imm = .error e) ↔ imm.toNat ≠ 0 := by
  have hzero : imm = 0x00#8 ↔ imm.toNat = 0 := BitVec.toNat_inj.symm
  unfold decodePlain
  split <;> simp_all

theorem decodeFeedw_fails_iff {imm : Byte} :
    (∃ e, decodeFeedw imm = .error e) ↔ imm.toNat = 0 ∨ 5 ≤ imm.toNat := by
  unfold decodeFeedw
  split
  next hcount => simp only [reduceCtorEq, exists_false, false_iff]; omega
  next hcount => simp only [Except.error.injEq, exists_eq', true_iff]; omega

/-- The opcodes and operands that R85 lists as illegal. -/
theorem decodeOp_fails_iff {op imm : Byte} : (∃ e, decodeOp op imm = .error e) ↔
    8 ≤ op.toNat ∨ (op.toNat ∈ [0, 1, 2, 5, 6, 7] ∧ imm.toNat ≠ 0)
      ∨ (op.toNat = 4 ∧ (imm.toNat = 0 ∨ 5 ≤ imm.toNat)) := by
  unfold decodeOp
  split_ifs with h0 h1 h2 h3 h4 h5 h6 h7
  · simp [decodePlain_fails_iff, h0]
  · simp [decodePlain_fails_iff, h1]
  · simp [decodePlain_fails_iff, h2]
  · simp [h3]
  · simp [decodeFeedw_fails_iff, h4]
  · simp [decodePlain_fails_iff, h5]
  · simp [decodePlain_fails_iff, h6]
  · simp [decodePlain_fails_iff, h7]
  · have hop : 8 ≤ op.toNat := by bv_omega
    simp [hop]

theorem decode_fails_iff (w : Word) : (∃ e, decode w = .error e) ↔
    rsvField w ≠ 0#16 ∨ ∃ e, decodeOp (opField w) (immField w) = .error e := by
  unfold decode
  split <;> simp_all

/-- Executing a word that is no command records ILLEGAL alone (R85, R152). -/
theorem execute_of_decode_error {w : Word} {e : DecodeError} (h : decode w = .error e) (s : State) :
    execute w s = .next { s with err := if s.err = 0#3 then 1#3 else s.err } := by
  rw [execute, h, raiseError_eq_setErr]
  rfl

/-- Settles O4: the list is that of `decodeOp_fails_iff` and RSV, read off the word's value. -/
theorem illegalWordOnlyRecordsIllegal : Obligations.IllegalWordOnlyRecordsIllegal := by
  refine fun w => ⟨?_, fun _ s h => execute_of_decode_error h s⟩
  have hrsv : rsvField w ≠ 0#16 ↔ w.toNat / 2 ^ 8 % 2 ^ 16 ≠ 0 := by
    rw [← rsvField_toNat, ne_eq, ne_eq, ← BitVec.toNat_inj]
    rfl
  rw [decode_fails_iff, decodeOp_fails_iff, hrsv, opField_toNat, immField_toNat, or_left_comm]

/-- Settles O11: the event is the write of an illegal word to CMD. -/
theorem stepRecordsIllegalWord : Obligations.StepRecordsIllegalWord := by
  intro s a w rest e hp ha hd
  rw [step_of_write hp, busWrite_of_cmd ha, execute_of_decode_error hd]
  rfl

/-! ### Executing the word of a command -/

theorem execute_encode_of_wellFormed {i : Instr} (h : i.wellFormed = true) (s : State) :
    execute (encode i) s = exec i s := by
  rw [execute, decode_encode h]

/-- A count outside 1..4 makes FEEDW's word illegal (R85). -/
theorem decode_encode_feedw_of_illegal {n : Byte} (hn : feedwCountLegal n = false) :
    decode (encode (.feedw n)) = .error .badOperand := by
  have hcount : ¬(1 ≤ n.toNat ∧ n.toNat ≤ 4) := by simpa [feedwCountLegal] using hn
  calc decode (encode (.feedw n))
      = decodeFeedw n := decode_commandWord 0x04#8 n
    _ = .error .badOperand := if_neg hcount

/-- Settles O6: a well-formed command by the round trip, and a FEEDW with an illegal count is ILLEGAL on both sides. -/
theorem encodedWordExecutesItsCommand : Obligations.EncodedWordExecutesItsCommand := by
  intro i s
  cases i with
  | feedw n =>
    cases hn : feedwCountLegal n with
    | true => exact execute_encode_of_wellFormed (i := .feedw n) hn s
    | false => rw [execute, decode_encode_feedw_of_illegal hn, exec_eq_next, commandEffect_feedw_of_illegal hn]
  | _ => exact execute_encode_of_wellFormed rfl s

/-! ### The lines of host programs -/

theorem asmFeed_of_le {b : Nat} (h : b ≤ 255) : asmFeed b = some (asmFeedByte (BitVec.ofNat 8 b)) := if_pos h

theorem asmFeed_eq_none_iff (b : Nat) : asmFeed b = none ↔ 255 < b := by
  simp [asmFeed]

theorem asmFeedw_eq_none_iff (n : Nat) : asmFeedw n = none ↔ n = 0 ∨ 4 < n := by
  rw [asmFeedw, ite_eq_right_iff]
  simp only [reduceCtorEq, imp_false]
  omega

theorem encode_feed (b : Byte) : encode (.feed b) = 0x03000000#32 ||| b.setWidth 32 := by
  have hop : (0x03#8).setWidth 32 <<< 24 = 0x03000000#32 := by decide
  rw [encode, commandWord, Instr.opcode, Instr.operand, hop]

theorem encode_feedw (n : Byte) : encode (.feedw n) = 0x04000000#32 ||| n.setWidth 32 := by
  have hop : (0x04#8).setWidth 32 <<< 24 = 0x04000000#32 := by decide
  rw [encode, commandWord, Instr.opcode, Instr.operand, hop]

theorem asmFeed_toNat (b : Byte) : asmFeed b.toNat = some (.write 0x000#12 (encode (.feed b))) := by
  rw [asmFeed_of_le (Nat.le_of_lt_succ b.isLt), BitVec.ofNat_toNat, BitVec.setWidth_eq, asmFeedByte, asmRawcmd,
    encode_feed]

theorem asmFeedw_toNat {n : Byte} (hlow : 1 ≤ n.toNat) (hhigh : n.toNat ≤ 4) :
    asmFeedw n.toNat = some (.write 0x000#12 (encode (.feedw n))) := by
  rw [asmFeedw, if_pos ⟨hlow, hhigh⟩, BitVec.ofNat_toNat, asmRawcmd, encode_feedw]

/-- A named register stands at its offset: TABLE[i] at word 256 + i, the others by the map (R53, R87). -/
theorem regAt_of_regOffset {r : Reg} {a : Offset} (h : regOffset r = some a) : regAt a = r := by
  cases r with
  | reserved => cases h
  | table i =>
    cases h
    have hword : (0x400#12 + 4#12 * i.setWidth 12).toNat / 4 = 256 + i.toNat := by bv_omega
    rw [regAt_eq_regOfWord, hword, regOfWord_table]
  | _ => cases h; rfl

/-- Settles O7: each line is a raw write of a word that is the encoding. -/
theorem assemblerLinesAreEncodings : Obligations.AssemblerLinesAreEncodings :=
  ⟨asmFeed_toNat, asmFeed_eq_none_iff, fun _ => asmFeedw_toNat, asmFeedw_eq_none_iff, rfl, rfl, rfl, rfl, rfl, rfl,
    fun _ _ => regAt_of_regOffset⟩

/-- `feeds` of bytes is one FEED a byte, in order (R88). -/
theorem asmFeeds_of_le {bs : List Nat} (h : ∀ b ∈ bs, b ≤ 255) :
    asmFeeds bs = some (bs.map fun b => asmFeedByte (BitVec.ofNat 8 b)) := by
  induction bs with
  | nil => rfl
  | cons b bs ih =>
    obtain ⟨hb, hbs⟩ := List.forall_mem_cons.mp h
    have htail : bs.mapM asmFeed = some (bs.map fun b => asmFeedByte (BitVec.ofNat 8 b)) := ih hbs
    rw [asmFeeds, List.mapM_cons, asmFeed_of_le hb, htail]
    rfl

theorem asmFeedstr_of_ascii {text : List Char} (h : ∀ c ∈ text, c.toNat ≤ 0x7F) :
    asmFeedstr text = some ((text.map fun c => BitVec.ofNat 8 c.toNat).map asmFeedByte) := by
  have hcodes : ∀ b ∈ text.map Char.toNat, b ≤ 255 := by
    rintro _ hb
    obtain ⟨c, hc, rfl⟩ := List.mem_map.mp hb
    exact (h c hc).trans (by decide)
  rw [asmFeedstr, if_pos (by simpa using h), asmFeeds_of_le hcodes, List.map_map, List.map_map]
  rfl

theorem asmFeedstr_of_not_ascii {text : List Char} (h : ∃ c ∈ text, 0x7F < c.toNat) : asmFeedstr text = none :=
  if_neg (by simpa using h)

/-- Settles O8: the two sequences have the same lines around the feeds, and the feeds are the codes'. -/
theorem crcPseudoInstructionIsOneCompute : Obligations.CrcPseudoInstructionIsOneCompute := by
  refine fun p iv x text => ⟨fun h => ?_, fun h => ?_⟩
  · rw [asmCrc, asmFeedstr_of_ascii h]
    rfl
  · rw [asmCrc, asmFeedstr_of_not_ascii h]
    rfl

end Sys2Proof.Machine
end

section
/-!
PROOFS. Table generation (spec/40_table_generation.md): the bit steps of TableEntry and the properties R101 lists, and
what BUILD makes of the state (R100).
-/

namespace Sys2Proof.Machine

/-! ### Bit steps -/

theorem tableBit_of_even {c : Word} (h : c.getLsbD 0 = false) (p : Word) : tableBit p c = c >>> 1 :=
  if_neg (Bool.eq_false_iff.mp h)

/-- A bit step is a shift and a sum, the low bit selecting what is added. -/
theorem tableBit_eq_shift_xor (p c : Word) :
    tableBit p c = (c >>> 1) ^^^ (if c.getLsbD 0 then p else 0x00000000#32) := by
  unfold tableBit
  split
  · rfl
  · exact BitVec.xor_zero.symm

@[simp] theorem tableBits_zero (p c : Word) : tableBits p 0 c = c := rfl

@[simp] theorem tableBits_succ (p : Word) (k : Nat) (c : Word) :
    tableBits p (k + 1) c = tableBits p k (tableBit p c) := rfl

/-- A bit step is linear: the shift is, and the polynomial is added for one low bit and cancels for two. -/
theorem tableBit_xor (p c d : Word) : tableBit p (c ^^^ d) = tableBit p c ^^^ tableBit p d := by
  have hadded : (if (c ^^^ d).getLsbD 0 then p else 0x00000000#32)
      = (if c.getLsbD 0 then p else 0x00000000#32) ^^^ (if d.getLsbD 0 then p else 0x00000000#32) := by
    rw [BitVec.getLsbD_xor]
    cases c.getLsbD 0 <;> cases d.getLsbD 0 <;> simp
  rw [tableBit_eq_shift_xor, tableBit_eq_shift_xor, tableBit_eq_shift_xor, hadded, BitVec.ushiftRight_xor_distrib]
  ac_rfl

/-- The bit steps are linear together (R101 (c)). -/
theorem tableBits_xor (p : Word) (k : Nat) (c d : Word) :
    tableBits p k (c ^^^ d) = tableBits p k c ^^^ tableBits p k d := by
  induction k generalizing c d with
  | zero => rfl
  | succ k ih => rw [tableBits_succ, tableBit_xor, ih, tableBits_succ, tableBits_succ]

/-- A bit above the lowest is shifted down by a plain step. -/
theorem tableBit_twoPow_succ (p : Word) {k : Nat} (hk : k + 1 < 32) :
    tableBit p (BitVec.twoPow 32 (k + 1)) = BitVec.twoPow 32 k := by
  have heven : (BitVec.twoPow 32 (k + 1)).getLsbD 0 = false := by simp
  rw [tableBit_of_even heven]
  apply BitVec.eq_of_getLsbD_eq
  intro j _
  simp only [BitVec.getLsbD_ushiftRight, BitVec.getLsbD_twoPow, hk, Nat.lt_of_succ_lt hk, decide_true, Bool.true_and]
  exact decide_eq_decide.mpr (by omega)

/-- Bit k alone reaches the low end in k plain steps, and the next step leaves the polynomial (R101 (b)). -/
theorem tableBits_twoPow (p : Word) {k : Nat} (hk : k < 32) : tableBits p (k + 1) (BitVec.twoPow 32 k) = p := by
  induction k with
  | zero => exact BitVec.zero_xor
  | succ k ih => rw [tableBits_succ, tableBit_twoPow_succ p hk, ih (Nat.lt_of_succ_lt hk)]

/-- Without a polynomial every step is a plain shift (R101 (d)). -/
theorem tableBits_zero_poly (k : Nat) (c : Word) : tableBits 0x00000000#32 k c = c >>> k := by
  induction k generalizing c with
  | zero => exact (BitVec.ushiftRight_zero c).symm
  | succ k ih =>
    have hstep : tableBit 0x00000000#32 c = c >>> 1 := by simp [tableBit]
    rw [tableBits_succ, hstep, ih, ← BitVec.shiftRight_add, Nat.add_comm]

/-- The bit steps as R100's loop over k. -/
theorem tableBits_eq_foldl (p : Word) (k : Nat) (c : Word) :
    tableBits p k c = (List.range k).foldl (fun c _ => tableBit p c) c := by
  rw [List.foldl_const, List.length_range]
  induction k generalizing c with
  | zero => rfl
  | succ k ih => rw [tableBits_succ, ih, Function.iterate_succ_apply]

/-! ### The entries of the table -/

theorem tableEntry_xor (p : Word) (i j : Byte) : tableEntry p (i ^^^ j) = tableEntry p i ^^^ tableEntry p j := by
  rw [tableEntry, BitVec.setWidth_xor, tableBits_xor]
  rfl

/-- Index 0 is its own sum with itself, so linearity makes its entry 0. -/
theorem tableEntry_index_zero (p : Word) : tableEntry p 0x00#8 = 0x00000000#32 :=
  calc tableEntry p 0x00#8
      = tableEntry p 0x00#8 ^^^ tableEntry p 0x00#8 := tableEntry_xor p 0x00#8 0x00#8
    _ = 0x00000000#32 := BitVec.xor_self

theorem tableEntry_index_128 (p : Word) : tableEntry p 0x80#8 = p :=
  tableBits_twoPow p (k := 7) (by decide)

/-- Eight plain shifts clear an 8-bit index. -/
theorem tableEntry_poly_zero (i : Byte) : tableEntry 0x00000000#32 i = 0x00000000#32 := by
  have hcleared : i >>> Config.bitsPerEntry = 0x00#8 := BitVec.ushiftRight_eq_zero (by decide)
  rw [tableEntry, tableBits_zero_poly, ← BitVec.setWidth_ushiftRight (by decide), hcleared, BitVec.setWidth_zero]

/-- Settles O41, property by property. -/
theorem tableEntryProperties : Obligations.TableEntryProperties :=
  ⟨tableEntry_index_zero, tableEntry_index_128, tableEntry_xor, tableEntry_poly_zero⟩

/-! ### BUILD -/

/-- The state BUILD leaves, written from the host's registers, ERR and the bus alone (R100). -/
theorem commandEffect_build_eq (s : State) : commandEffect .build s =
    { poly := s.poly, iv := s.iv, xorout := s.xorout, data := s.data, crc := 0x00000000#32, result := 0x00000000#32,
      resultRev := 0x00000000#32, expected := s.expected, tv := true, m := false, mf := false, mr := false,
      err := s.err, table := buildTable s.poly, pending := s.pending, lastResp := s.lastResp } := rfl

/-- A word with the OP of a command without an operand is illegal unless its other bits are all 0 (R84, R85). -/
theorem execute_of_plain_op {op : Nat} {w : Word} (hplain : op ∈ [0, 1, 2, 5, 6, 7]) (hop : w.toNat / 2 ^ 24 = op)
    (hne : w.toNat ≠ op * 2 ^ 24) (s : State) :
    execute w s = .next { s with err := if s.err = 0#3 then 1#3 else s.err } := by
  obtain ⟨hillegal, hexec⟩ := illegalWordOnlyRecordsIllegal w
  obtain ⟨e, he⟩ : ∃ e, decode w = .error e := by
    rw [hillegal, hop]
    by_cases hrsv : w.toNat / 2 ^ 8 % 2 ^ 16 = 0
    · exact .inr (.inr (.inl ⟨hplain, by omega⟩))
    · exact .inr (.inl hrsv)
  exact hexec e s he

/-- Settles O15: BUILD's entries are `tableAt_buildTable`'s, R100's loop is `tableBits_eq_foldl`, and the other words of
OP 0x01 are `execute_of_plain_op`'s. -/
theorem buildWritesTableOfPoly : Obligations.BuildWritesTableOfPoly := by
  refine ⟨fun s => ⟨commandEffect .build s, exec_eq_next .build s, tableAt_buildTable s.poly, rfl⟩,
    fun p i => tableBits_eq_foldl p 8 _, tableEntry_index_zero _, by decide, tableEntry_index_128 _, by decide,
    decode_encode (i := .build) rfl, fun w s hop hne => ?_⟩
  exact execute_of_plain_op (by decide) hop (fun hw => hne (BitVec.eq_of_toNat_eq hw)) s

/-- Settles O44: `commandEffect_build_eq` names only fields in which the two states are equal. -/
theorem buildForgetsComputation : Obligations.BuildForgetsComputation := by
  intro s u hpoly hiv hxorout hdata hexpected herr hpending hresp
  have hsame : commandEffect .build s = commandEffect .build u := by
    rw [commandEffect_build_eq, commandEffect_build_eq, hpoly, hiv, hxorout, hdata, hexpected, herr, hpending, hresp]
  exact ⟨commandEffect .build u, hsame ▸ exec_eq_next .build s, exec_eq_next .build u⟩

end Sys2Proof.Machine
end

section
/-!
PROOFS. The checksum commands (spec/41_checksum.md): what absorbing bytes makes of the state, INIT, FEED, FEEDW and
FINAL, runs of CMD writes, and the host sequence of one Compute (R118) with the state it leaves.
-/

namespace Sys2Proof.Machine

/-! ### The running value -/

/-- A table step in R111's own words: the index is the low byte of CRC with the byte. -/
theorem stepByte_eq (t : Vector Word 256) (c : Word) (b : Byte) :
    stepByte t c b = (c >>> 8) ^^^ tableAt t (c.extractLsb' 0 8 ^^^ b) := by
  rw [stepByte, BitVec.setWidth_eq_extractLsb' (by decide)]

/-- FEEDW's bytes absorbed as R114's loop over k. -/
theorem absorb_lowBytes (t : Vector Word 256) (c v : Word) (n : Nat) :
    absorb t c (lowBytes v n) = (List.range n).foldl (fun c k => stepByte t c (wordByte v k)) c := by
  rw [absorb, lowBytes, List.foldl_map]

/-- Through the table of a polynomial the bytes are absorbed as the source's Compute does (R113, R118). -/
theorem absorb_buildTable (p c : Word) (bs : List Byte) :
    absorb (buildTable p) c bs = bs.foldl (computeByte p) c := by
  have hstep : stepByte (buildTable p) = computeByte p := by
    funext c b
    rw [stepByte, tableAt_buildTable, computeByte]
  rw [absorb, hstep]

theorem feedBytes_of_tv {s : State} (htv : s.tv = true) (bs : List Byte) :
    feedBytes bs s = s.setCrc (absorb s.table s.crc bs) :=
  if_pos htv

/-- Without a table the bytes are not absorbed: NO_TABLE is recorded alone (R112, R114). -/
theorem feedBytes_of_not_tv {s : State} (htv : s.tv = false) (bs : List Byte) :
    feedBytes bs s = { s with err := if s.err = 0#3 then 2#3 else s.err } := by
  rw [feedBytes, if_neg (Bool.eq_false_iff.mp htv), raiseError_eq_setErr]
  rfl

/-! ### The commands -/

/-- Settles O16: INIT's state is `commandEffect_init`'s, and the other words of OP 0x02 are `execute_of_plain_op`'s. -/
theorem initStartsAtIv : Obligations.InitStartsAtIv := by
  refine ⟨fun s => exec_eq_next .init s, decode_encode (i := .init) rfl, fun w s hop hne => ?_⟩
  exact execute_of_plain_op (by decide) hop (fun hw => hne (BitVec.eq_of_toNat_eq hw)) s

/-- Settles O20: FINAL's state is `commandEffect_final`'s, and the other words of OP 0x05 are `execute_of_plain_op`'s. -/
theorem finalReturnsChecksum : Obligations.FinalReturnsChecksum := by
  refine ⟨fun s => exec_eq_next .final s, decode_encode (i := .final) rfl, fun w s hop hne => ?_⟩
  exact execute_of_plain_op (by decide) hop (fun hw => hne (BitVec.eq_of_toNat_eq hw)) s

/-- Settles O17: one step of `stepByte_eq` with a table, `feedBytes_of_not_tv` without. -/
theorem feedTakesOneTableStep : Obligations.FeedTakesOneTableStep := by
  refine ⟨fun b s htv => ?_, fun b s htv => ?_, fun b => ?_⟩
  · rw [exec_feed_of_tv htv, stepByte_eq]
    rfl
  · rw [exec_eq_next, commandEffect_feed, feedBytes_of_not_tv htv]
  · rw [← encode_feed]
    exact decode_encode rfl

theorem feedwCountLegal_iff (n : Byte) : feedwCountLegal n = true ↔ 1 ≤ n.toNat ∧ n.toNat ≤ 4 :=
  wellFormed_feedw_iff n

/-- Settles O18, by the count and TV: R114's loop is `absorb_lowBytes`, and an illegal count is ILLEGAL as its word is. -/
theorem feedwStepsOverLowBytes : Obligations.FeedwStepsOverLowBytes := by
  refine ⟨fun n s hlow hhigh htv => ?steps, fun n s hlow hhigh htv => ?noTable, fun n s hn => ⟨?illegal, ?word⟩,
    fun n hlow hhigh => ?decodes⟩
  case steps =>
    have hlegal := (feedwCountLegal_iff n).mpr ⟨hlow, hhigh⟩
    rw [exec_eq_next, commandEffect_feedw_of_legal hlegal, feedBytes_of_tv htv, absorb_lowBytes]
    simp only [stepByte_eq]
    rfl
  case noTable =>
    have hlegal := (feedwCountLegal_iff n).mpr ⟨hlow, hhigh⟩
    rw [exec_eq_next, commandEffect_feedw_of_legal hlegal, feedBytes_of_not_tv htv]
  case illegal =>
    have hillegal : feedwCountLegal n = false := by
      rw [← Bool.not_eq_true, feedwCountLegal_iff]
      omega
    rw [exec_eq_next, commandEffect_feedw_of_illegal hillegal, raiseError_eq_setErr]
    rfl
  case word =>
    rw [← encode_feedw]
    exact encodedWordExecutesItsCommand (.feedw n) s
  case decodes =>
    rw [← encode_feedw]
    exact decode_encode ((wellFormed_feedw_iff n).mpr ⟨hlow, hhigh⟩)

/-! ### Runs of writes -/

/-- A run goes on from the state its first part ends in. -/
theorem run_add {s t : State} {j : Nat} (h : run j s = .next t) (k : Nat) : run (j + k) s = run k t := by
  induction j generalizing s with
  | zero =>
    obtain rfl : s = t := Host.Outcome.next.inj h
    rw [Nat.zero_add]
  | succ j ih =>
    obtain ⟨u, hstep, hrest⟩ := run_succ_cases h
    rw [Nat.add_right_comm, run_succ_of_next hstep, ih hrest]

/-- A step whose event is the CMD write of a command's word runs the command (R56, R82). -/
theorem step_of_command {s : State} {i : Instr} {rest : List BusEvent} (hi : i.wellFormed = true)
    (hp : s.pending = .write 0x000#12 (encode i) :: rest) :
    step s = .next (commandEffect i ((s.setPending rest).setResp (some .writeDone))) :=
  (stepRunsDecodedCommand s _ _ rest i hp (by decide) (decode_encode hi)).trans (exec_eq_next i _)

/-- A step whose event is the write of a register other than CMD writes it (R56). -/
theorem step_of_register_write {s : State} {a : Offset} {r : Reg} {v : Word} {rest : List BusEvent}
    (hreg : regAt a = r) (hr : r ≠ .cmd) (hp : s.pending = .write a v :: rest) :
    step s = .next (writeReg r v ((s.setPending rest).setResp (some .writeDone))) :=
  (step_of_write hp).trans (busWrite_of_reg hreg hr v _)

theorem asmFeedByte_eq (b : Byte) : asmFeedByte b = .write 0x000#12 (encode (.feed b)) := by
  rw [asmFeedByte, asmRawcmd, encode_feed]

/-- With a valid table, a run over FEED's CMD writes absorbs their bytes in order and writes no other register (R112,
R113). -/
theorem run_feeds {s : State} (htv : s.tv = true) (bs : List Byte) {rest : List BusEvent}
    (hp : s.pending = bs.map asmFeedByte ++ rest) :
    run bs.length s = .next { s with crc := absorb s.table s.crc bs, pending := rest,
                                     lastResp := if bs = [] then s.lastResp else some .writeDone } := by
  induction bs generalizing s with
  | nil =>
    obtain rfl : s.pending = rest := hp
    rfl
  | cons b bs ih =>
    rw [List.map_cons, asmFeedByte_eq, List.cons_append] at hp
    rw [List.length_cons, run_succ_of_next (step_of_command rfl hp), commandEffect_feed,
      feedBytes_of_tv (by exact htv), ih (by exact htv) rfl]
    simp

/-- Settles O19: the writes are FEEDs of the bytes FEEDW absorbs (`run_feeds`), and there is at least one. -/
theorem feedwEqualsFeeds : Obligations.FeedwEqualsFeeds := by
  intro n s hlow hhigh htv feeds
  have hlegal := (feedwCountLegal_iff n).mpr ⟨hlow, hhigh⟩
  refine ⟨_, exec_eq_next (.feedw n) s, ?_⟩
  have hfeeds : feeds = (lowBytes s.data n.toNat).map asmFeedByte ++ [] := by
    rw [List.append_nil, lowBytes, List.map_map]
    exact List.map_congr_left fun k _ => (asmFeedByte_eq (wordByte s.data k)).symm
  have hlength : (lowBytes s.data n.toNat).length = n.toNat := by simp [lowBytes]
  have hnonempty : lowBytes s.data n.toNat ≠ [] := by
    rw [← List.length_pos_iff, hlength]
    exact hlow
  have hrun := run_feeds (s := { s with pending := feeds }) htv (lowBytes s.data n.toNat) hfeeds
  rw [hlength, if_neg hnonempty] at hrun
  rw [hrun, commandEffect_feedw_of_legal hlegal, feedBytes_of_tv htv]
  rfl

/-! ### The host sequence of one Compute -/

/-- The state after the lines of one Compute before its feeds: the table of the polynomial, and CRC at the initial
value. -/
def afterSetup (p iv : Word) (x : Bool) (rest : List BusEvent) (s : State) : State :=
  { s with poly := p, iv := iv, xorout := x, crc := iv, result := 0x00000000#32, resultRev := 0x00000000#32,
           tv := true, m := false, mf := false, mr := false, table := buildTable p, pending := rest,
           lastResp := some .writeDone }

/-- The state after the whole sequence of one Compute, with `rest` still to come. -/
def afterCompute (p iv : Word) (x : Bool) (bs : List Byte) (rest : List BusEvent) (s : State) : State :=
  { afterSetup p iv x rest s with crc := absorb (buildTable p) iv bs, result := compute p bs iv x,
                                  resultRev := bswap32 (compute p bs iv x) }

theorem writeReg_ctrl_boolWord (x : Bool) (s : State) : writeReg .ctrl (boolWord x) s = s.setXorout x := by
  rw [writeReg, getLsbD_boolWord, decide_eq_true rfl, Bool.true_and]

/-- The five lines before the feeds, one step each: `wr POLY`, `build`, `wr IV`, `wr CTRL`, `init`. -/
theorem run_setup (p iv : Word) (x : Bool) {s : State} {rest : List BusEvent}
    (hp : s.pending = .write 0x008#12 p :: asmBuild :: .write 0x00C#12 iv :: .write 0x010#12 (boolWord x) ::
      asmInit :: rest) :
    run 5 s = .next (afterSetup p iv x rest s) := by
  rw [run_succ_of_next (step_of_register_write (r := .poly) rfl (by decide) hp),
    run_succ_of_next (step_of_command (i := .build) rfl rfl),
    run_succ_of_next (step_of_register_write (r := .iv) rfl (by decide) rfl),
    run_succ_of_next (step_of_register_write (r := .ctrl) rfl (by decide) rfl),
    run_succ_of_next (step_of_command (i := .init) rfl rfl), run_zero, writeReg_ctrl_boolWord]
  rfl

/-- From any state the sequence of R118 runs through and leaves `afterCompute`, whatever events follow it. -/
theorem run_computeSequence (p iv : Word) (x : Bool) (bs : List Byte) {s : State} {rest : List BusEvent}
    (hp : s.pending = computeSequence p iv x bs ++ rest) :
    run (computeSequence p iv x bs).length s = .next (afterCompute p iv x bs rest s) := by
  have hlength : (computeSequence p iv x bs).length = 5 + (bs.length + 1) := by
    simp only [computeSequence, computeLines, List.length_append, List.length_map, List.length_cons, List.length_nil]
    omega
  have hsetup := run_setup p iv x (s := s) (rest := bs.map asmFeedByte ++ asmFinal :: rest)
    (by simpa [computeSequence, computeLines] using hp)
  have hresult : outputXor x (absorb (buildTable p) iv bs) = compute p bs iv x := by
    rw [absorb_buildTable, compute]
  rw [hlength, run_add hsetup, run_add (run_feeds rfl bs rfl),
    run_succ_of_next (step_of_command (i := .final) rfl rfl), run_zero, afterCompute, ← hresult]
  rfl

/-- Settles O42: the sequence leaves `afterCompute` with no event to come. -/
theorem sequenceComputesChecksum : Obligations.SequenceComputesChecksum := fun p iv x bs _ =>
  ⟨_, run_computeSequence p iv x bs (List.append_nil _).symm, rfl, rfl, rfl, rfl⟩

end Sys2Proof.Machine
end

section
/-!
PROOFS. The compare and control commands (spec/42_compare_and_control.md): NOP, CLRERR and MATCH with the compares MATCH
records, and the host sequence that decides a match (R131).
-/

namespace Sys2Proof.Machine

/-! ### The commands -/

/-- Of the words with the OP of a command without an operand, all but that command's own record ILLEGAL alone (R84,
R85): `execute_of_plain_op` with the one legal word named. -/
theorem execute_of_malformed {op : Nat} {legal w : Word} (hplain : op ∈ [0, 1, 2, 5, 6, 7])
    (hlegal : legal.toNat = op * 2 ^ 24) (hop : w.toNat / 2 ^ 24 = op) (hne : w ≠ legal) (s : State) :
    execute w s = .next { s with err := if s.err = 0#3 then 1#3 else s.err } :=
  execute_of_plain_op hplain hop (fun hw => hne (BitVec.eq_of_toNat_eq (hw.trans hlegal.symm))) s

/-- Settles O14: NOP's state is `commandEffect_nop`'s, and the other words of OP 0x00 are malformed. -/
theorem nopChangesNothing : Obligations.NopChangesNothing :=
  ⟨exec_eq_next .nop, decode_encode (i := .nop) rfl,
    fun _ s hop hne => execute_of_malformed (op := 0) (by decide) (by decide) hop hne s⟩

/-- Settles O23: CLRERR's state is `commandEffect_clrerr`'s, and the other words of OP 0x07 are malformed. -/
theorem clrerrClearsErr : Obligations.ClrerrClearsErr :=
  ⟨exec_eq_next .clrerr, decode_encode (i := .clrerr) rfl,
    fun _ s hop hne => execute_of_malformed (op := 7) (by decide) (by decide) hop hne s⟩

/-- The compare MATCH records in MF (R130). -/
theorem matchForward_iff (s : State) : matchForward s = true ↔ s.result = s.expected := beq_iff_eq

/-- The compare MATCH records in MR (R130). -/
theorem matchReversed_iff (s : State) : matchReversed s = true ↔ s.resultRev = s.expected := beq_iff_eq

/-- Settles O22: the flags are the two compares and their or, and the other words of OP 0x06 are malformed. -/
theorem matchComparesBothForms : Obligations.MatchComparesBothForms := by
  refine ⟨fun s => ⟨commandEffect .matchExpected s, exec_eq_next .matchExpected s, matchForward_iff s,
    matchReversed_iff s, ?either, rfl⟩, decode_encode (i := .matchExpected) rfl,
    fun w s hop hne => execute_of_malformed (op := 6) (by decide) (by decide) hop hne s⟩
  case either =>
    rw [commandEffect_matchExpected, State.setMatch_m, Bool.or_eq_true, matchForward_iff, matchReversed_iff]

/-! ### The host sequence that decides a match -/

/-- The last two lines of R131, one step each: `wr EXPECTED, c` and `match`, which compares with the value just
written. -/
theorem run_expected_match {s : State} {c : Word} (hp : s.pending = [.write 0x024#12 c, asmMatch]) :
    run 2 s = .next (commandEffect .matchExpected
      { s with expected := c, pending := [], lastResp := some .writeDone }) := by
  rw [run_succ_of_next (step_of_register_write (r := .expected) rfl (by decide) hp),
    run_succ_of_next (step_of_command (i := .matchExpected) rfl rfl), run_zero]
  rfl

/-- Settles O43: the sequence of R118 leaves the source's Compute in RESULT and its reversal in RESULT_REV
(`run_computeSequence`), so the two compares of MATCH are the two of Matches. -/
theorem sequenceDecidesMatch : Obligations.SequenceDecidesMatch := by
  intro p iv c x bs s
  have hcompute := run_computeSequence p iv x bs
    (s := { s with pending := matchSequence p iv x bs c }) (rest := [.write 0x024#12 c, asmMatch]) rfl
  have hlength : (matchSequence p iv x bs c).length = (computeSequence p iv x bs).length + 2 := by
    rw [matchSequence, List.length_append, List.length_cons, List.length_singleton]
  exact ⟨_, hlength ▸ (run_add hcompute 2).trans (run_expected_match rfl), rfl, rfl⟩

end Sys2Proof.Machine
end

section
/-!
PROOFS. Errors and reset (spec/60_exceptions.md R152, R155; spec/70_reset_and_hazards.md R180, R181): what a failing
command records, that no command's effect on the other state looks at ERR, and the state a reset leaves.
-/

namespace Sys2Proof.Machine

/-! ### Failing commands -/

/-- The word of a command leaves the command's state (R82). -/
theorem execute_of_command {w : Word} {i : Instr} (h : decode w = .ok i) (s : State) :
    execute w s = .next (commandEffect i s) := by
  rw [execute, h]
  exact exec_eq_next i s

theorem execute_of_illegal {w : Word} {e : DecodeError} (h : decode w = .error e) (s : State) :
    execute w s = .next (raiseError .illegal s) := by
  rw [execute, h]

theorem feedBytes_of_no_table {s : State} (htv : s.tv = false) (bs : List Byte) :
    feedBytes bs s = raiseError .noTable s :=
  if_neg (Bool.eq_false_iff.mp htv)

/-- FEED and FEEDW without a table raise NO_TABLE and do nothing else (R112, R114). The encoding check comes first, so
FEEDW's count is legal (R154). -/
theorem execute_of_no_table {w : Word} {s : State} (htv : s.tv = false)
    (h : (∃ b, decode w = .ok (.feed b)) ∨ ∃ n, decode w = .ok (.feedw n)) :
    execute w s = .next (raiseError .noTable s) := by
  obtain ⟨b, hd⟩ | ⟨n, hd⟩ := h
  · rw [execute_of_command hd, commandEffect_feed, feedBytes_of_no_table htv]
  · have hlegal : feedwCountLegal n = true := wellFormed_of_decode hd
    rw [execute_of_command hd, commandEffect_feedw_of_legal hlegal, feedBytes_of_no_table htv]

/-! ### ERR decides nothing but ERR -/

/-- Whatever ERR holds, raising an error leaves the same state but for ERR. -/
theorem raiseError_setErr (c : ErrorCode) (s : State) (e : BitVec 3) :
    ∃ e', raiseError c (s.setErr e) = (raiseError c s).setErr e' := by
  rw [raiseError_eq_setErr, raiseError_eq_setErr]
  exact ⟨_, rfl⟩

/-- The bytes are absorbed, or NO_TABLE is raised, by TV alone. -/
theorem feedBytes_setErr (bs : List Byte) (s : State) (e : BitVec 3) :
    ∃ e', feedBytes bs (s.setErr e) = (feedBytes bs s).setErr e' := by
  cases htv : s.tv with
  | true =>
    rw [feedBytes_of_tv htv, feedBytes_of_tv (s := s.setErr e) htv]
    exact ⟨e, rfl⟩
  | false =>
    rw [feedBytes_of_no_table htv, feedBytes_of_no_table (s := s.setErr e) htv]
    exact raiseError_setErr .noTable s e

/-- Every command has the same effect on the other state whatever ERR holds (R152). -/
theorem commandEffect_setErr (i : Instr) (s : State) (e : BitVec 3) :
    ∃ e', commandEffect i (s.setErr e) = (commandEffect i s).setErr e' := by
  cases i with
  | feed b => exact feedBytes_setErr [b] s e
  | feedw n =>
    cases hn : feedwCountLegal n with
    | true =>
      rw [commandEffect_feedw_of_legal hn, commandEffect_feedw_of_legal hn]
      exact feedBytes_setErr _ s e
    | false =>
      rw [commandEffect_feedw_of_illegal hn, commandEffect_feedw_of_illegal hn]
      exact raiseError_setErr .illegal s e
  | clrerr => exact ⟨errNone, rfl⟩
  | _ => exact ⟨e, rfl⟩

/-- Every word, a command or not, has the same effect on the other state whatever ERR holds (R152). -/
theorem execute_setErr {w : Word} {s t : State} (h : execute w s = .next t) (e : BitVec 3) :
    ∃ e', execute w (s.setErr e) = .next (t.setErr e') := by
  cases hd : decode w with
  | ok i =>
    rw [execute_of_command hd] at h ⊢
    cases h
    obtain ⟨e', he⟩ := commandEffect_setErr i s e
    exact ⟨e', congrArg _ he⟩
  | error _ =>
    rw [execute_of_illegal hd] at h ⊢
    cases h
    obtain ⟨e', he⟩ := raiseError_setErr .illegal s e
    exact ⟨e', congrArg _ he⟩

/-- Settles O25: the record is `raiseError_eq_setErr`'s, the failing words are those of `execute_of_illegal` and
`execute_of_no_table`, and the last clause is `execute_setErr`. -/
theorem failingCommandOnlyRecordsFirstError : Obligations.FailingCommandOnlyRecordsFirstError :=
  ⟨raiseError_eq_setErr,
    fun _ s => ⟨fun ⟨_, hd⟩ => execute_of_illegal hd s, fun htv hfeed => execute_of_no_table htv hfeed⟩,
    fun _ _ _ e h => execute_setErr h e⟩

/-! ### Reset -/

theorem step_of_reset {s : State} {rest : List BusEvent} (h : s.pending = .reset :: rest) :
    step s = .next (applyReset (s.setPending rest)) := by
  unfold step
  rw [h]
  rfl

/-- A reset that abandons a command has no more effect than a reset alone, but that it answers the blocked write
(R155, R181). -/
theorem step_of_resetDuringCommand {s : State} {w : Word} {rest : List BusEvent}
    (h : s.pending = .resetDuringCommand w :: rest) :
    step s = .next ((applyReset (s.setPending rest)).setResp (some abortResponse)) := by
  unfold step
  rw [h]
  rfl

/-- Settles O37, by the two kinds of reset: neither leaves anything of the state before but the events to come. -/
theorem resetEventRestoresResetValues : Obligations.ResetEventRestoresResetValues := by
  rintro s rest w (hp | hp)
  · exact ⟨_, step_of_reset hp, rfl⟩
  · exact ⟨_, step_of_resetDuringCommand hp, rfl⟩

end Sys2Proof.Machine
end

section
/-!
PROOFS. Reset values and hazards (spec/70_reset_and_hazards.md R180, R190, R193): which parameter each command reads,
and the table while TV = 0.
-/

namespace Sys2Proof.Machine

/-! ### Parameters -/

/-- The state with the five host registers of `u` (R23 to R26, R30), TV as it is. -/
def State.withHostRegs (s u : State) : State :=
  { s with poly := u.poly, iv := u.iv, xorout := u.xorout, data := u.data, expected := u.expected }

@[simp] theorem State.withHostRegs_poly (s u : State) : (s.withHostRegs u).poly = u.poly := rfl
@[simp] theorem State.withHostRegs_iv (s u : State) : (s.withHostRegs u).iv = u.iv := rfl
@[simp] theorem State.withHostRegs_xorout (s u : State) : (s.withHostRegs u).xorout = u.xorout := rfl
@[simp] theorem State.withHostRegs_data (s u : State) : (s.withHostRegs u).data = u.data := rfl
@[simp] theorem State.withHostRegs_expected (s u : State) : (s.withHostRegs u).expected = u.expected := rfl

/-- The two states hold the same value in the parameter the command reads, if it reads one (R193). -/
structure SampledAlike (i : Instr) (s u : State) : Prop where
  /-- BUILD reads POLY. -/
  build : i = .build → u.poly = s.poly
  /-- INIT reads IV. -/
  init : i = .init → u.iv = s.iv
  /-- FEEDW reads DATA. -/
  feedw : ∀ n, i = .feedw n → u.data = s.data
  /-- FINAL reads CTRL.XOROUT. -/
  final : i = .final → u.xorout = s.xorout
  /-- MATCH reads EXPECTED. -/
  matchExpected : i = .matchExpected → u.expected = s.expected

theorem raiseError_withHostRegs (c : ErrorCode) (s u : State) :
    raiseError c (s.withHostRegs u) = (raiseError c s).withHostRegs u := by
  rw [raiseError_eq_setErr, raiseError_eq_setErr]
  rfl

/-- Absorbing given bytes looks at no host register (R112, R114). -/
theorem feedBytes_withHostRegs (bs : List Byte) (s u : State) :
    feedBytes bs (s.withHostRegs u) = (feedBytes bs s).withHostRegs u := by
  cases htv : s.tv with
  | true =>
    rw [feedBytes_of_tv htv, feedBytes_of_tv (s := s.withHostRegs u) htv]
    rfl
  | false =>
    rw [feedBytes_of_no_table htv, feedBytes_of_no_table (s := s.withHostRegs u) htv]
    exact raiseError_withHostRegs .noTable s u

/-- Of the host registers a command reads its own parameter at most, and it leaves them as they are. -/
theorem commandEffect_withHostRegs {i : Instr} {s u : State} (h : SampledAlike i s u) :
    commandEffect i (s.withHostRegs u) = (commandEffect i s).withHostRegs u := by
  cases i with
  | nop | clrerr => rfl
  | build =>
    rw [commandEffect_build, commandEffect_build, State.withHostRegs_poly, h.build rfl]
    rfl
  | init =>
    rw [commandEffect_init, commandEffect_init, State.withHostRegs_iv, h.init rfl]
    rfl
  | feed b => exact feedBytes_withHostRegs [b] s u
  | feedw n =>
    cases hn : feedwCountLegal n with
    | true =>
      rw [commandEffect_feedw_of_legal hn, commandEffect_feedw_of_legal hn, State.withHostRegs_data, h.feedw n rfl]
      exact feedBytes_withHostRegs _ s u
    | false =>
      rw [commandEffect_feedw_of_illegal hn, commandEffect_feedw_of_illegal hn]
      exact raiseError_withHostRegs .illegal s u
  | final =>
    rw [commandEffect_final, commandEffect_final, State.withHostRegs_xorout, h.final rfl]
    rfl
  | matchExpected =>
    have hforward : matchForward (s.withHostRegs u) = matchForward s := by
      rw [matchForward, State.withHostRegs_expected, h.matchExpected rfl]
      rfl
    have hreversed : matchReversed (s.withHostRegs u) = matchReversed s := by
      rw [matchReversed, State.withHostRegs_expected, h.matchExpected rfl]
      rfl
    rw [commandEffect_matchExpected, commandEffect_matchExpected, hforward, hreversed]
    rfl

/-- A command acts alike before and after an update `f` of host registers that leaves its own parameter. -/
theorem exec_of_host_update {i : Instr} {s t : State} (h : exec i s = .next t) {f : State → State}
    (hf : ∀ u : State, f (u.withHostRegs s) = u.withHostRegs (f s)) (hsame : SampledAlike i s (f s)) :
    exec i (f s) = .next (f t) := by
  have hbefore : f s = s.withHostRegs (f s) := hf s
  have hkept : t = t.withHostRegs s := by
    rw [eq_commandEffect_of_exec h, commandEffect_host_frame i s]
    rfl
  have hafter : f t = t.withHostRegs (f s) := (congrArg f hkept).trans (hf t)
  rw [hbefore, hafter, exec_eq_next, commandEffect_withHostRegs hsame, ← eq_commandEffect_of_exec h]

/-- Settles O29: each parameter's update is one of host registers (`exec_of_host_update`), and no register write
reaches what the commands write (`writeReg_engine_frame`). -/
theorem parametersSampledByOneCommand : Obligations.ParametersSampledByOneCommand := by
  constructor
  · intro i s t h
    refine ⟨fun hi v => ?iv, fun hi b => ?xorout, fun hi v => ?data, fun hi v => ?expected, fun hi v => ?poly⟩
    case iv =>
      exact exec_of_host_update (f := (·.setIv v)) h (fun _ => rfl)
        ⟨fun _ => rfl, fun hown => absurd hown hi, fun _ _ => rfl, fun _ => rfl, fun _ => rfl⟩
    case xorout =>
      exact exec_of_host_update (f := (·.setXorout b)) h (fun _ => rfl)
        ⟨fun _ => rfl, fun _ => rfl, fun _ _ => rfl, fun hown => absurd hown hi, fun _ => rfl⟩
    case data =>
      exact exec_of_host_update (f := (·.setData v)) h (fun _ => rfl)
        ⟨fun _ => rfl, fun _ => rfl, fun n hown => absurd hown (hi n), fun _ => rfl, fun _ => rfl⟩
    case expected =>
      exact exec_of_host_update (f := (·.setExpected v)) h (fun _ => rfl)
        ⟨fun _ => rfl, fun _ => rfl, fun _ _ => rfl, fun _ => rfl, fun hown => absurd hown hi⟩
    case poly =>
      exact exec_of_host_update (f := (·.setPoly v)) h (fun _ => rfl)
        ⟨fun hown => absurd hown hi, fun _ => rfl, fun _ _ => rfl, fun _ => rfl, fun _ => rfl⟩
  · intro a v s ha
    refine ⟨_, busWrite_of_word rfl ha v s, ?_⟩
    rw [writeReg_engine_frame]
    exact ⟨rfl, rfl, rfl, rfl, rfl, rfl, rfl, rfl⟩

/-! ### A stale table is unusable -/

/-- No register write makes TV 1 (R22): a write of POLY makes it 0, the others keep it. -/
theorem writeReg_tv_of_not_tv {s : State} (htv : s.tv = false) (r : Reg) (v : Word) : (writeReg r v s).tv = false := by
  by_cases hr : r = .poly
  · subst hr
    rfl
  · rw [writeReg_poly_frame hr]
    exact htv

/-- A command but BUILD leaves TV at 0. -/
theorem commandEffect_tv_of_not_tv {i : Instr} (hi : i ≠ .build) {s : State} (htv : s.tv = false) :
    (commandEffect i s).tv = false := by
  rw [commandEffect_table_frame hi]
  exact htv

/-- While TV is 0, a step that is no BUILD leaves it at 0. -/
theorem step_tv_of_not_tv {s t : State} (htv : s.tv = false) (hbuild : nextCommand s ≠ some .build)
    (h : step s = .next t) : t.tv = false := by
  cases stepEffect_of_step h with
  | idle => exact htv
  | read => exact htv
  | command i rest hnext =>
    exact commandEffect_tv_of_not_tv (fun hi => hbuild (hi ▸ hnext)) (by exact htv)
  | illegalWord => exact (raiseError_tv ..).trans htv
  | registerWrite r v => exact writeReg_tv_of_not_tv (by exact htv) r v
  | reset => rfl

/-- Every entry of TABLE reads 0 while TV is 0 (R31). -/
theorem readReg_table_of_not_tv {s : State} (htv : s.tv = false) (i : Byte) :
    readReg (.table i) s = 0x00000000#32 := by
  rw [readReg, htv, cond_false]

/-- Settles O45: the write by `busWrite_of_word`, the step by `step_tv_of_not_tv`; what FEED and FEEDW do without a
table is part of O17 and O18. -/
theorem staleTableIsUnusable : Obligations.StaleTableIsUnusable := by
  obtain ⟨-, hfeed, -⟩ := feedTakesOneTableStep
  obtain ⟨-, hfeedw, -⟩ := feedwStepsOverLowBytes
  refine ⟨fun a v s ha => ?write, fun s t htv h ht => ?build, fun s htv =>
    ⟨fun a i ha => ?read, fun b => hfeed b s htv, fun n hlow hhigh => hfeedw n s hlow hhigh htv⟩⟩
  case write => exact ⟨_, busWrite_of_word ha (by decide) v s, rfl, rfl⟩
  case build =>
    by_contra hbuild
    exact Bool.false_ne_true ((step_tv_of_not_tv htv hbuild h).symm.trans ht)
  case read => rw [busRead_of_word ha, regOfWord_table, readReg_table_of_not_tv htv]

/-! ### Reset values -/

/-- Settles O36: the fields by the definition of the reset state, STATUS by computing its word, and TABLE because TV
is 0. -/
theorem resetStateValues : Obligations.ResetStateValues :=
  ⟨by decide, rfl, rfl, rfl, rfl, rfl, rfl, rfl, rfl, rfl, rfl, rfl, rfl, rfl, rfl, rfl,
    readReg_table_of_not_tv State.reset_tv⟩

end Sys2Proof.Machine
end
